-- ==== Sys2Proof/Word.lean ====
section
/-! DEFINITION. The word types of the block: bytes, the 16-bit code, the 24-bit frame, the 32-bit operand and the
64-bit control word (spec/00_scope.md section 4, spec/30_encoding.md R80 and R100). -/

namespace Sys2Proof

/-- A byte of a frame, or an 8-bit field of a control word. -/
abbrev Byte := BitVec 8

/-- A code, a wavetable entry, or the IMM16 field. -/
abbrev U16 := BitVec 16

/-- A frame as one number: `raw[0] ++ raw[1] ++ raw[2]` (R80). -/
abbrev U24 := BitVec 24

/-- The W32 field: an unsigned integer or a binary32 word. -/
abbrev U32 := BitVec 32

/-- A control word (R100). -/
abbrev ControlWord := BitVec 64

end Sys2Proof
end

