-- ==== Sys2Proof/Syntax.lean ====
section
/-! DEFINITION. The instructions: one constructor for each row of spec/opcode_table.json, 47 control words
(30_encoding.md R102) and 17 wire frames (R84 to R92). The operands are the fields the row's form names (R101), each
at its full width, so that every word of the row is a term. -/

namespace Sys2Proof

/-- One instruction. `sel` is the SEL field as it stands: that it names a slot or an oscillator is checked by the
meaning (R105), not by the syntax. -/
inductive Instr where
  -- FrameCodec (40_codec.md)
  | frClear
  | frLoad (frame : U24)
  | frSetoff (value : U16)
  | packData (value : U16)
  | packAddr (value : U32)
  | packCmd (value : U32)
  | unpackData
  | unpackAddr
  | unpackCmd
  | frRead
  -- Channel (41_channel.md)
  | chSetout (sel : Byte) (code : U16) (au : Bool)
  | chSetv (sel : Byte) (au : Bool) (volts : U32)
  | chGain (sel : Byte) (mode : U16)
  | chUpdate (sel : Byte)
  | chEn (sel : Byte)
  | chDis (sel : Byte)
  | chD2v (sel : Byte) (code : U16)
  | chV2d (sel : Byte) (volts : U32)
  -- ConverterDevice (42_device.md)
  | devInit
  | devDefault
  | devVref (volts : U32)
  | devIntref (value : U16)
  | devAttSync
  | devDetSync
  | devAttClr
  | devDetClr
  | devSyncmode (mode : U16)
  | devLdacPulse
  | devPdmode (mode : U16)
  | devRstInput
  | devRstFactory
  | devClrPulse
  | devWrite (data : U16) (addr cmd : Byte) (cfg : Bool)
  | devLast
  -- Oscillator and WaveformEngine (43_oscillator.md)
  | oscEn (sel : Byte)
  | oscDis (sel : Byte)
  | oscFreq (sel : Byte) (value : U32)
  | oscAmp (sel : Byte) (value : U32)
  | oscPhase (sel : Byte) (value : U32)
  | oscDc (sel : Byte) (value : U32)
  | oscKind (sel : Byte) (kind : U16)
  | oscTwr (sel : Byte) (code : U16) (index : U32)
  | oscTrd (sel : Byte) (index : U32)
  | oscBind (sel : Byte) (slot : U16)
  | oscVmode (sel : Byte) (value : U16)
  | oscIdx (sel : Byte)
  | tick
  -- Wire frames (30_encoding.md R84 to R92); RSV, and ADDR of the last four, are ignored on decode
  | frameWrInA (data : U16)
  | frameWrInB (data : U16)
  | frameWrInBoth (data : U16)
  | frameGain (data : U16)
  | frameUpdA (data : U16)
  | frameUpdB (data : U16)
  | frameUpdBoth (data : U16)
  | frameWrUpdAllA (data : U16)
  | frameWrUpdAllB (data : U16)
  | frameWrUpdAllBoth (data : U16)
  | frameWrUpdA (data : U16)
  | frameWrUpdB (data : U16)
  | frameWrUpdBoth (data : U16)
  | framePower (data : U16)
  | frameReset (data : U16)
  | frameLdac (data : U16)
  | frameIntref (data : U16)
deriving DecidableEq, Repr

end Sys2Proof
end

