-- ==== Sys2Proof/Decode.lean ====
section
/-! DEFINITION. Decoding and encoding of control words and wire frames (spec/30_encoding.md). The decoder is total on
any 64-bit word and any 24-bit frame and rejects by name; the encoder writes 0 in every unused field (R116) and in the
fields a frame's decoder ignores (R81, R93). -/

namespace Sys2Proof

/-- What one instruction is written as: a control word (R100) or a wire frame (R80). -/
inductive Bits where
  | word (w : ControlWord)
  | frame (f : U24)
deriving DecidableEq, Repr

/-- Why bits stand for no row of the opcode table. Neither stops the block: an unassigned opcode is ignored (R104),
and a reserved frame still unpacks and is sent as packed when DEV_WRITE builds it (R94). -/
inductive DecodeError where
  /-- R104: the OP value is not in the table of R102. -/
  | unassignedOpcode (op : Byte)
  /-- R94: CMD 0 to 3 with ADDR 3 to 6, or CMD 1 to 3 with ADDR 2. -/
  | reservedFrame (cmd addr : BitVec 3)
deriving DecidableEq, Repr

/-- OP, bits 63:56 (R100). -/
def opField (w : ControlWord) : Byte := w.extractLsb' 56 8

/-- SEL, bits 55:48 (R100). -/
def selField (w : ControlWord) : Byte := w.extractLsb' 48 8

/-- IMM16, bits 47:32 (R100). -/
def immField (w : ControlWord) : U16 := w.extractLsb' 32 16

/-- W32, bits 31:0 (R100). -/
def w32Field (w : ControlWord) : U32 := w.extractLsb' 0 32

/-- CMD, frame bits 21:19 (R80). -/
def cmdField (f : U24) : BitVec 3 := f.extractLsb' 19 3

/-- ADDR, frame bits 18:16 (R80). -/
def addrField (f : U24) : BitVec 3 := f.extractLsb' 16 3

/-- DH ++ DL, frame bits 15:0 (R80). -/
def dataField (f : U24) : U16 := f.extractLsb' 0 16

/-- The opcode map (R102) with the operand forms of R101: OP alone selects the row (R114). -/
def decodeWord (w : ControlWord) : Except DecodeError Instr :=
  match (opField w).toNat with
  | 0x01 => .ok .frClear
  | 0x02 => .ok (.frLoad ((w32Field w).extractLsb' 0 24))
  | 0x03 => .ok (.frSetoff (immField w))
  | 0x04 => .ok (.packData (immField w))
  | 0x05 => .ok (.packAddr (w32Field w))
  | 0x06 => .ok (.packCmd (w32Field w))
  | 0x07 => .ok .unpackData
  | 0x08 => .ok .unpackAddr
  | 0x09 => .ok .unpackCmd
  | 0x0A => .ok .frRead
  | 0x10 => .ok (.chSetout (selField w) (immField w) ((w32Field w).getLsbD 0))
  | 0x11 => .ok (.chSetv (selField w) ((immField w).getLsbD 0) (w32Field w))
  | 0x12 => .ok (.chGain (selField w) (immField w))
  | 0x13 => .ok (.chUpdate (selField w))
  | 0x14 => .ok (.chEn (selField w))
  | 0x15 => .ok (.chDis (selField w))
  | 0x16 => .ok (.chD2v (selField w) (immField w))
  | 0x17 => .ok (.chV2d (selField w) (w32Field w))
  | 0x20 => .ok .devInit
  | 0x21 => .ok .devDefault
  | 0x22 => .ok (.devVref (w32Field w))
  | 0x23 => .ok (.devIntref (immField w))
  | 0x24 => .ok .devAttSync
  | 0x25 => .ok .devDetSync
  | 0x26 => .ok .devAttClr
  | 0x27 => .ok .devDetClr
  | 0x28 => .ok (.devSyncmode (immField w))
  | 0x29 => .ok .devLdacPulse
  | 0x2A => .ok (.devPdmode (immField w))
  | 0x2B => .ok .devRstInput
  | 0x2C => .ok .devRstFactory
  | 0x2D => .ok .devClrPulse
  | 0x2E => .ok (.devWrite (immField w) ((w32Field w).extractLsb' 0 8) ((w32Field w).extractLsb' 8 8) ((w32Field w).getLsbD 16))
  | 0x2F => .ok .devLast
  | 0x30 => .ok (.oscEn (selField w))
  | 0x31 => .ok (.oscDis (selField w))
  | 0x32 => .ok (.oscFreq (selField w) (w32Field w))
  | 0x33 => .ok (.oscAmp (selField w) (w32Field w))
  | 0x34 => .ok (.oscPhase (selField w) (w32Field w))
  | 0x35 => .ok (.oscDc (selField w) (w32Field w))
  | 0x36 => .ok (.oscKind (selField w) (immField w))
  | 0x37 => .ok (.oscTwr (selField w) (immField w) (w32Field w))
  | 0x38 => .ok (.oscTrd (selField w) (w32Field w))
  | 0x39 => .ok (.oscBind (selField w) (immField w))
  | 0x3A => .ok (.oscVmode (selField w) (immField w))
  | 0x3B => .ok (.oscIdx (selField w))
  | 0x40 => .ok .tick
  | _ => .error (.unassignedOpcode (opField w))

/-- The wire encodings of R84 to R92. RSV is ignored, and so is ADDR of POWER, RESET, LDAC and INTREF. -/
def decodeFrame (f : U24) : Except DecodeError Instr :=
  match (cmdField f).toNat, (addrField f).toNat with
  | 0, 0 => .ok (.frameWrInA (dataField f))
  | 0, 1 => .ok (.frameWrInB (dataField f))
  | 0, 7 => .ok (.frameWrInBoth (dataField f))
  | 0, 2 => .ok (.frameGain (dataField f))
  | 1, 0 => .ok (.frameUpdA (dataField f))
  | 1, 1 => .ok (.frameUpdB (dataField f))
  | 1, 7 => .ok (.frameUpdBoth (dataField f))
  | 2, 0 => .ok (.frameWrUpdAllA (dataField f))
  | 2, 1 => .ok (.frameWrUpdAllB (dataField f))
  | 2, 7 => .ok (.frameWrUpdAllBoth (dataField f))
  | 3, 0 => .ok (.frameWrUpdA (dataField f))
  | 3, 1 => .ok (.frameWrUpdB (dataField f))
  | 3, 7 => .ok (.frameWrUpdBoth (dataField f))
  | 4, _ => .ok (.framePower (dataField f))
  | 5, _ => .ok (.frameReset (dataField f))
  | 6, _ => .ok (.frameLdac (dataField f))
  | 7, _ => .ok (.frameIntref (dataField f))
  | _, _ => .error (.reservedFrame (cmdField f) (addrField f))

/-- Decoding, total on any bits. -/
def decode : Bits → Except DecodeError Instr
  | .word w => decodeWord w
  | .frame f => decodeFrame f

/-- A control word from its fields (R100). -/
def mkWord (op sel : Byte) (imm : U16) (w32 : U32) : ControlWord := op ++ sel ++ imm ++ w32

/-- The bits of an instruction, unused fields 0. -/
def encode : Instr → Bits
  | .frClear => .word (mkWord 0x01 0 0 0)
  | .frLoad frame => .word (mkWord 0x02 0 0 (0#8 ++ frame))
  | .frSetoff v => .word (mkWord 0x03 0 v 0)
  | .packData v => .word (mkWord 0x04 0 v 0)
  | .packAddr v => .word (mkWord 0x05 0 0 v)
  | .packCmd v => .word (mkWord 0x06 0 0 v)
  | .unpackData => .word (mkWord 0x07 0 0 0)
  | .unpackAddr => .word (mkWord 0x08 0 0 0)
  | .unpackCmd => .word (mkWord 0x09 0 0 0)
  | .frRead => .word (mkWord 0x0A 0 0 0)
  | .chSetout sel code au => .word (mkWord 0x10 sel code (0#31 ++ BitVec.ofBool au))
  | .chSetv sel au v => .word (mkWord 0x11 sel (0#15 ++ BitVec.ofBool au) v)
  | .chGain sel v => .word (mkWord 0x12 sel v 0)
  | .chUpdate sel => .word (mkWord 0x13 sel 0 0)
  | .chEn sel => .word (mkWord 0x14 sel 0 0)
  | .chDis sel => .word (mkWord 0x15 sel 0 0)
  | .chD2v sel v => .word (mkWord 0x16 sel v 0)
  | .chV2d sel v => .word (mkWord 0x17 sel 0 v)
  | .devInit => .word (mkWord 0x20 0 0 0)
  | .devDefault => .word (mkWord 0x21 0 0 0)
  | .devVref v => .word (mkWord 0x22 0 0 v)
  | .devIntref v => .word (mkWord 0x23 0 v 0)
  | .devAttSync => .word (mkWord 0x24 0 0 0)
  | .devDetSync => .word (mkWord 0x25 0 0 0)
  | .devAttClr => .word (mkWord 0x26 0 0 0)
  | .devDetClr => .word (mkWord 0x27 0 0 0)
  | .devSyncmode v => .word (mkWord 0x28 0 v 0)
  | .devLdacPulse => .word (mkWord 0x29 0 0 0)
  | .devPdmode v => .word (mkWord 0x2A 0 v 0)
  | .devRstInput => .word (mkWord 0x2B 0 0 0)
  | .devRstFactory => .word (mkWord 0x2C 0 0 0)
  | .devClrPulse => .word (mkWord 0x2D 0 0 0)
  | .devWrite data addr cmd cfg => .word (mkWord 0x2E 0 data (0#15 ++ BitVec.ofBool cfg ++ cmd ++ addr))
  | .devLast => .word (mkWord 0x2F 0 0 0)
  | .oscEn sel => .word (mkWord 0x30 sel 0 0)
  | .oscDis sel => .word (mkWord 0x31 sel 0 0)
  | .oscFreq sel v => .word (mkWord 0x32 sel 0 v)
  | .oscAmp sel v => .word (mkWord 0x33 sel 0 v)
  | .oscPhase sel v => .word (mkWord 0x34 sel 0 v)
  | .oscDc sel v => .word (mkWord 0x35 sel 0 v)
  | .oscKind sel v => .word (mkWord 0x36 sel v 0)
  | .oscTwr sel code index => .word (mkWord 0x37 sel code index)
  | .oscTrd sel v => .word (mkWord 0x38 sel 0 v)
  | .oscBind sel v => .word (mkWord 0x39 sel v 0)
  | .oscVmode sel v => .word (mkWord 0x3A sel v 0)
  | .oscIdx sel => .word (mkWord 0x3B sel 0 0)
  | .tick => .word (mkWord 0x40 0 0 0)
  | .frameWrInA data => .frame (0x00#8 ++ data)
  | .frameWrInB data => .frame (0x01#8 ++ data)
  | .frameWrInBoth data => .frame (0x07#8 ++ data)
  | .frameGain data => .frame (0x02#8 ++ data)
  | .frameUpdA data => .frame (0x08#8 ++ data)
  | .frameUpdB data => .frame (0x09#8 ++ data)
  | .frameUpdBoth data => .frame (0x0F#8 ++ data)
  | .frameWrUpdAllA data => .frame (0x10#8 ++ data)
  | .frameWrUpdAllB data => .frame (0x11#8 ++ data)
  | .frameWrUpdAllBoth data => .frame (0x17#8 ++ data)
  | .frameWrUpdA data => .frame (0x18#8 ++ data)
  | .frameWrUpdB data => .frame (0x19#8 ++ data)
  | .frameWrUpdBoth data => .frame (0x1F#8 ++ data)
  | .framePower data => .frame (0x20#8 ++ data)
  | .frameReset data => .frame (0x28#8 ++ data)
  | .frameLdac data => .frame (0x30#8 ++ data)
  | .frameIntref data => .frame (0x38#8 ++ data)

/-- A row of spec/opcode_table.json: how many bits it has, which of them are fixed, and their values. -/
structure Row where
  mnemonic : String
  bits : Nat
  mask : Nat
  pattern : Nat
deriving DecidableEq, Repr

/-- A control-word row: OP is fixed. -/
def Row.control (mnemonic : String) (op : Nat) : Row := ⟨mnemonic, 64, 0xFF00000000000000, op * 2 ^ 56⟩

/-- A wire-frame row that fixes CMD and ADDR. -/
def Row.frame (mnemonic : String) (byte0 : Nat) : Row := ⟨mnemonic, 24, 0x3F0000, byte0 * 2 ^ 16⟩

/-- A wire-frame row that fixes CMD alone. -/
def Row.configFrame (mnemonic : String) (byte0 : Nat) : Row := ⟨mnemonic, 24, 0x380000, byte0 * 2 ^ 16⟩

/-- The row of the opcode table an instruction belongs to. -/
def rowOf : Instr → Row
  | .frClear => Row.control "FR_CLEAR" 0x01
  | .frLoad _ => Row.control "FR_LOAD" 0x02
  | .frSetoff _ => Row.control "FR_SETOFF" 0x03
  | .packData _ => Row.control "PACK_DATA" 0x04
  | .packAddr _ => Row.control "PACK_ADDR" 0x05
  | .packCmd _ => Row.control "PACK_CMD" 0x06
  | .unpackData => Row.control "UNPACK_DATA" 0x07
  | .unpackAddr => Row.control "UNPACK_ADDR" 0x08
  | .unpackCmd => Row.control "UNPACK_CMD" 0x09
  | .frRead => Row.control "FR_READ" 0x0A
  | .chSetout _ _ _ => Row.control "CH_SETOUT" 0x10
  | .chSetv _ _ _ => Row.control "CH_SETV" 0x11
  | .chGain _ _ => Row.control "CH_GAIN" 0x12
  | .chUpdate _ => Row.control "CH_UPDATE" 0x13
  | .chEn _ => Row.control "CH_EN" 0x14
  | .chDis _ => Row.control "CH_DIS" 0x15
  | .chD2v _ _ => Row.control "CH_D2V" 0x16
  | .chV2d _ _ => Row.control "CH_V2D" 0x17
  | .devInit => Row.control "DEV_INIT" 0x20
  | .devDefault => Row.control "DEV_DEFAULT" 0x21
  | .devVref _ => Row.control "DEV_VREF" 0x22
  | .devIntref _ => Row.control "DEV_INTREF" 0x23
  | .devAttSync => Row.control "DEV_ATT_SYNC" 0x24
  | .devDetSync => Row.control "DEV_DET_SYNC" 0x25
  | .devAttClr => Row.control "DEV_ATT_CLR" 0x26
  | .devDetClr => Row.control "DEV_DET_CLR" 0x27
  | .devSyncmode _ => Row.control "DEV_SYNCMODE" 0x28
  | .devLdacPulse => Row.control "DEV_LDAC_PULSE" 0x29
  | .devPdmode _ => Row.control "DEV_PDMODE" 0x2A
  | .devRstInput => Row.control "DEV_RST_INPUT" 0x2B
  | .devRstFactory => Row.control "DEV_RST_FACTORY" 0x2C
  | .devClrPulse => Row.control "DEV_CLR_PULSE" 0x2D
  | .devWrite _ _ _ _ => Row.control "DEV_WRITE" 0x2E
  | .devLast => Row.control "DEV_LAST" 0x2F
  | .oscEn _ => Row.control "OSC_EN" 0x30
  | .oscDis _ => Row.control "OSC_DIS" 0x31
  | .oscFreq _ _ => Row.control "OSC_FREQ" 0x32
  | .oscAmp _ _ => Row.control "OSC_AMP" 0x33
  | .oscPhase _ _ => Row.control "OSC_PHASE" 0x34
  | .oscDc _ _ => Row.control "OSC_DC" 0x35
  | .oscKind _ _ => Row.control "OSC_KIND" 0x36
  | .oscTwr _ _ _ => Row.control "OSC_TWR" 0x37
  | .oscTrd _ _ => Row.control "OSC_TRD" 0x38
  | .oscBind _ _ => Row.control "OSC_BIND" 0x39
  | .oscVmode _ _ => Row.control "OSC_VMODE" 0x3A
  | .oscIdx _ => Row.control "OSC_IDX" 0x3B
  | .tick => Row.control "TICK" 0x40
  | .frameWrInA _ => Row.frame "FRAME_WR_IN_A" 0x00
  | .frameWrInB _ => Row.frame "FRAME_WR_IN_B" 0x01
  | .frameWrInBoth _ => Row.frame "FRAME_WR_IN_BOTH" 0x07
  | .frameGain _ => Row.frame "FRAME_GAIN" 0x02
  | .frameUpdA _ => Row.frame "FRAME_UPD_A" 0x08
  | .frameUpdB _ => Row.frame "FRAME_UPD_B" 0x09
  | .frameUpdBoth _ => Row.frame "FRAME_UPD_BOTH" 0x0F
  | .frameWrUpdAllA _ => Row.frame "FRAME_WR_UPD_ALL_A" 0x10
  | .frameWrUpdAllB _ => Row.frame "FRAME_WR_UPD_ALL_B" 0x11
  | .frameWrUpdAllBoth _ => Row.frame "FRAME_WR_UPD_ALL_BOTH" 0x17
  | .frameWrUpdA _ => Row.frame "FRAME_WR_UPD_A" 0x18
  | .frameWrUpdB _ => Row.frame "FRAME_WR_UPD_B" 0x19
  | .frameWrUpdBoth _ => Row.frame "FRAME_WR_UPD_BOTH" 0x1F
  | .framePower _ => Row.configFrame "FRAME_POWER" 0x20
  | .frameReset _ => Row.configFrame "FRAME_RESET" 0x28
  | .frameLdac _ => Row.configFrame "FRAME_LDAC" 0x30
  | .frameIntref _ => Row.configFrame "FRAME_INTREF" 0x38

/-- Rows of spec/opcode_table.json, codec part. -/
def codecRows : List Row := [
  Row.control "FR_CLEAR" 0x01,
  Row.control "FR_LOAD" 0x02,
  Row.control "FR_SETOFF" 0x03,
  Row.control "PACK_DATA" 0x04,
  Row.control "PACK_ADDR" 0x05,
  Row.control "PACK_CMD" 0x06,
  Row.control "UNPACK_DATA" 0x07,
  Row.control "UNPACK_ADDR" 0x08,
  Row.control "UNPACK_CMD" 0x09,
  Row.control "FR_READ" 0x0A]

/-- Rows of spec/opcode_table.json, channel part. -/
def channelRows : List Row := [
  Row.control "CH_SETOUT" 0x10,
  Row.control "CH_SETV" 0x11,
  Row.control "CH_GAIN" 0x12,
  Row.control "CH_UPDATE" 0x13,
  Row.control "CH_EN" 0x14,
  Row.control "CH_DIS" 0x15,
  Row.control "CH_D2V" 0x16,
  Row.control "CH_V2D" 0x17]

/-- Rows of spec/opcode_table.json, device part. -/
def deviceRows : List Row := [
  Row.control "DEV_INIT" 0x20,
  Row.control "DEV_DEFAULT" 0x21,
  Row.control "DEV_VREF" 0x22,
  Row.control "DEV_INTREF" 0x23,
  Row.control "DEV_ATT_SYNC" 0x24,
  Row.control "DEV_DET_SYNC" 0x25,
  Row.control "DEV_ATT_CLR" 0x26,
  Row.control "DEV_DET_CLR" 0x27,
  Row.control "DEV_SYNCMODE" 0x28,
  Row.control "DEV_LDAC_PULSE" 0x29,
  Row.control "DEV_PDMODE" 0x2A,
  Row.control "DEV_RST_INPUT" 0x2B,
  Row.control "DEV_RST_FACTORY" 0x2C,
  Row.control "DEV_CLR_PULSE" 0x2D,
  Row.control "DEV_WRITE" 0x2E,
  Row.control "DEV_LAST" 0x2F]

/-- Rows of spec/opcode_table.json, oscillator part. -/
def oscillatorRows : List Row := [
  Row.control "OSC_EN" 0x30,
  Row.control "OSC_DIS" 0x31,
  Row.control "OSC_FREQ" 0x32,
  Row.control "OSC_AMP" 0x33,
  Row.control "OSC_PHASE" 0x34,
  Row.control "OSC_DC" 0x35,
  Row.control "OSC_KIND" 0x36,
  Row.control "OSC_TWR" 0x37,
  Row.control "OSC_TRD" 0x38,
  Row.control "OSC_BIND" 0x39,
  Row.control "OSC_VMODE" 0x3A,
  Row.control "OSC_IDX" 0x3B,
  Row.control "TICK" 0x40]

/-- Rows of spec/opcode_table.json, frame part. -/
def frameRows : List Row := [
  Row.frame "FRAME_WR_IN_A" 0x00,
  Row.frame "FRAME_WR_IN_B" 0x01,
  Row.frame "FRAME_WR_IN_BOTH" 0x07,
  Row.frame "FRAME_GAIN" 0x02,
  Row.frame "FRAME_UPD_A" 0x08,
  Row.frame "FRAME_UPD_B" 0x09,
  Row.frame "FRAME_UPD_BOTH" 0x0F,
  Row.frame "FRAME_WR_UPD_ALL_A" 0x10,
  Row.frame "FRAME_WR_UPD_ALL_B" 0x11,
  Row.frame "FRAME_WR_UPD_ALL_BOTH" 0x17,
  Row.frame "FRAME_WR_UPD_A" 0x18,
  Row.frame "FRAME_WR_UPD_B" 0x19,
  Row.frame "FRAME_WR_UPD_BOTH" 0x1F,
  Row.configFrame "FRAME_POWER" 0x20,
  Row.configFrame "FRAME_RESET" 0x28,
  Row.configFrame "FRAME_LDAC" 0x30,
  Row.configFrame "FRAME_INTREF" 0x38]

/-- The whole opcode table. -/
def opcodeRows : List Row := codecRows ++ channelRows ++ deviceRows ++ oscillatorRows ++ frameRows

/-- The bits an instruction is written as, as a number, with how many they are. -/
def bitsNat : Bits → Nat × Nat
  | .word w => (64, w.toNat)
  | .frame f => (24, f.toNat)

/-- The host's question: which instruction the decoder reads from `w`, a row of `nbits` bits of the opcode table. A
row of at most 24 bits is a wire frame, any other a control word. -/
def decodeTableWord (nbits w : Nat) : Option Instr :=
  (decode (if nbits ≤ 24 then .frame (BitVec.ofNat 24 w) else .word (BitVec.ofNat 64 w))).toOption

end Sys2Proof
end

