-- ==== Sys2Proof/Machine/Sine.lean ====
section
/-! DEFINITION. The parameter `SIN(i, N)` of spec/00_scope.md R8: its type, which carries the four properties the spec
names, and one function that has them all, which shows only that the type is not empty. No meaning reads that
function: the model's `SIN` is the opaque constant of Sys2Proof/Config.lean. -/

namespace Sys2Proof

/-- The values of a sine at the four quarters of its period. -/
def quarterValue (q : Nat) : Rat :=
  match q % 4 with
  | 1 => 1
  | 3 => -1
  | _ => 0

/-- A numerics function `SIN(i, N)` with the properties of R8, which are all a model may assume of it. Outside
`0 ≤ i < N` nothing is said. -/
structure SinFunction where
  /-- `SIN(i, N)` -/
  val : Nat → Nat → Rat
  /-- `SIN_RANGE` -/
  range : ∀ i n, i < n → -1 ≤ val i n ∧ val i n ≤ 1
  /-- `SIN_EXACT`: where `4·i = q·N` the value is exactly that of quarter `q` -/
  exact : ∀ i n q, i < n → 4 * i = q * n → val i n = quarterValue q
  /-- `SIN_ODD` -/
  odd : ∀ i n, n % 2 = 0 → i < n / 2 → val (i + n / 2) n = -val i n
  /-- `SIN_CLOSE`: within `2^-24` of the real sine -/
  close : ∀ i n, i < n → |(val i n : ℝ) - Real.sin (2 * Real.pi * i / n)| ≤ 1 / 2 ^ 24

/-! ### A function with these properties -/

/-- The first 20 terms of the sine's power series. -/
def sineSum (x : Rat) : Rat := ∑ k ∈ Finset.range 20, (-1) ^ k * x ^ (2 * k + 1) / (2 * k + 1).factorial

/-- The angle `2π·i/n`, with 14 decimals of `π`. -/
def sineAngle (i n : Nat) : Rat := 2 * (314159265358979 / 100000000000000) * i / n

/-- A sine by its series. -/
def seriesSine (i n : Nat) : Rat := max (-1) (min 1 (sineSum (sineAngle i n)))

/-- The series made exact at the quarters and odd about the half period. -/
def referenceSine (i n : Nat) : Rat :=
  if 4 * i % n = 0 then quarterValue (4 * i / n)
  else if n % 2 = 0 ∧ n / 2 ≤ i then -seriesSine (i - n / 2) n
  else seriesSine i n

/-- The exponential series of `x·i` in its real and imaginary parts. -/
theorem expSum_eq (x : ℝ) (K : Nat) :
    ∑ m ∈ Finset.range (2 * K), ((x : ℂ) * Complex.I) ^ m / (m.factorial : ℂ) =
      ((∑ k ∈ Finset.range K, (-1) ^ k * x ^ (2 * k) / (2 * k).factorial : ℝ) : ℂ) +
      ((∑ k ∈ Finset.range K, (-1) ^ k * x ^ (2 * k + 1) / (2 * k + 1).factorial : ℝ) : ℂ) * Complex.I := by
  induction K with
  | zero => simp
  | succ K ih =>
    have hI : ((x : ℂ) * Complex.I) ^ (2 * K) = (-1) ^ K * (x : ℂ) ^ (2 * K) := by
      rw [mul_pow, pow_mul Complex.I, Complex.I_sq]; ring
    rw [show 2 * (K + 1) = 2 * K + 1 + 1 by ring, Finset.sum_range_succ, Finset.sum_range_succ, ih, pow_succ, hI,
      Finset.sum_range_succ, Finset.sum_range_succ]
    push_cast
    ring

/-- The error of the series, for angles up to 7. -/
theorem sineSum_close (x : ℝ) (h0 : 0 ≤ x) (h7 : x ≤ 7) :
    |(∑ k ∈ Finset.range 20, (-1) ^ k * x ^ (2 * k + 1) / (2 * k + 1).factorial) - Real.sin x| ≤ 1 / 2 ^ 26 := by
  have hn : ‖(x : ℂ) * Complex.I‖ = x := by simp [abs_of_nonneg h0]
  have hb := Complex.exp_bound' (x := (x : ℂ) * Complex.I) (n := 40) (by
    rw [hn]; rw [div_le_iff₀ (by positivity)]; push_cast; linarith)
  rw [show (40 : Nat) = 2 * 20 from rfl, expSum_eq, hn] at hb
  have him := (Complex.abs_im_le_norm _).trans hb
  rw [Complex.exp_mul_I] at him
  simp only [Complex.sub_im, Complex.add_im, Complex.mul_im, Complex.ofReal_re, Complex.ofReal_im, Complex.I_re,
    Complex.I_im, Complex.cos_ofReal_im, Complex.sin_ofReal_re, Complex.sin_ofReal_im, mul_one, mul_zero, zero_add,
    add_zero] at him
  rw [abs_sub_comm]
  refine him.trans ?_
  calc x ^ (2 * 20) / ((2 * 20).factorial : ℝ) * 2 ≤ 7 ^ (2 * 20) / ((2 * 20).factorial : ℝ) * 2 := by gcongr
    _ ≤ 1 / 2 ^ 26 := by norm_num [Nat.factorial]

/-- The series is close to the real sine at every point of the period. -/
theorem seriesSine_close (i n : Nat) (h : i < n) :
    |(seriesSine i n : ℝ) - Real.sin (2 * Real.pi * i / n)| ≤ 1 / 2 ^ 24 := by
  have hn : (0 : ℝ) < n := by exact_mod_cast (Nat.zero_le i).trans_lt h
  have hi : (i : ℝ) / n ≤ 1 := by rw [div_le_one hn]; exact_mod_cast h.le
  have hi0 : (0 : ℝ) ≤ i / n := by positivity
  obtain ⟨x, hx⟩ : ∃ x : ℝ, x = (sineAngle i n : ℝ) := ⟨_, rfl⟩
  have hxe : x = 2 * (314159265358979 / 100000000000000) * (i / n) := by rw [hx, sineAngle]; push_cast; ring
  have hsum : |(sineSum (sineAngle i n) : ℝ) - Real.sin x| ≤ 1 / 2 ^ 26 := by
    have := sineSum_close x (by rw [hxe]; positivity) (by rw [hxe]; linarith)
    rw [hx] at this ⊢
    unfold sineSum
    push_cast
    exact this
  have hang : |Real.sin x - Real.sin (2 * Real.pi * i / n)| ≤ 1 / 2 ^ 26 := by
    refine (Real.abs_sin_sub_sin_le _ _).trans ?_
    have h1 := Real.pi_gt_d20
    have h2 := Real.pi_lt_d20
    rw [hxe, show 2 * Real.pi * i / n = 2 * Real.pi * (i / n) by ring, ← sub_mul, abs_mul, abs_of_nonneg hi0]
    refine (mul_le_of_le_one_right (abs_nonneg _) hi).trans ?_
    rw [abs_le]
    constructor <;> norm_num at * <;> linarith
  have hs1 := Real.neg_one_le_sin (2 * Real.pi * i / n)
  have hs2 := Real.sin_le_one (2 * Real.pi * i / n)
  rw [abs_le] at hsum hang ⊢
  unfold seriesSine
  push_cast
  rcases max_cases (-1 : ℝ) (min 1 (sineSum (sineAngle i n) : ℝ)) with ⟨e, _⟩ | ⟨e, _⟩ <;>
    rcases min_cases (1 : ℝ) (sineSum (sineAngle i n) : ℝ) with ⟨f, _⟩ | ⟨f, _⟩ <;> rw [e] <;> try rw [f] at *
  all_goals constructor <;> norm_num at * <;> linarith

/-- The real sine at the quarters. -/
theorem sin_quarter (i n q : Nat) (h : i < n) (hq : 4 * i = q * n) :
    Real.sin (2 * Real.pi * i / n) = quarterValue q := by
  have hn : (n : ℝ) ≠ 0 := by exact_mod_cast (show n ≠ 0 by omega)
  have hq4 : q < 4 := by by_contra hc; have := Nat.mul_le_mul_right n (show 4 ≤ q by omega); omega
  have e : 2 * Real.pi * i / n = q * (Real.pi / 2) := by
    have : (4 * i : ℝ) = q * n := by exact_mod_cast hq
    field_simp
    linarith
  rw [e]
  interval_cases q
  · simp [quarterValue]
  · simp [quarterValue]
  · rw [show ((2 : Nat) : ℝ) * (Real.pi / 2) = Real.pi by push_cast; ring]; simp [quarterValue]
  · rw [show ((3 : Nat) : ℝ) * (Real.pi / 2) = Real.pi / 2 + Real.pi by push_cast; ring]
    simp [quarterValue, Real.sin_add_pi]

/-- The real sine is odd about the half period. -/
theorem sin_half_period (i n : Nat) (h : n % 2 = 0) (hn : 0 < n) :
    Real.sin (2 * Real.pi * (i + n / 2 : Nat) / n) = -Real.sin (2 * Real.pi * i / n) := by
  obtain ⟨m, rfl⟩ : ∃ m, n = 2 * m := ⟨n / 2, by omega⟩
  have hm : (m : ℝ) ≠ 0 := by exact_mod_cast (show m ≠ 0 by omega)
  rw [← Real.sin_add_pi, Nat.mul_div_cancel_left _ (by norm_num)]
  congr 1
  push_cast
  field_simp

/-- The series stays in the range. -/
theorem seriesSine_range (i n : Nat) : -1 ≤ seriesSine i n ∧ seriesSine i n ≤ 1 :=
  ⟨le_max_left _ _, max_le (by norm_num) (min_le_left _ _)⟩

/-- A quarter value is in the range. -/
theorem quarterValue_range (q : Nat) : -1 ≤ quarterValue q ∧ quarterValue q ≤ 1 := by
  unfold quarterValue; split <;> norm_num

/-- Half a period on, a quarter value changes its sign. -/
theorem quarterValue_add_two (q : Nat) : quarterValue (q + 2) = -quarterValue q := by
  have h : q % 4 < 4 := Nat.mod_lt _ (by norm_num)
  unfold quarterValue
  rw [Nat.add_mod]
  interval_cases q % 4 <;> simp

/-- `SIN_RANGE` of the reference. -/
theorem referenceSine_range (i n : Nat) : -1 ≤ referenceSine i n ∧ referenceSine i n ≤ 1 := by
  unfold referenceSine
  split
  · exact quarterValue_range _
  · split
    · have := seriesSine_range (i - n / 2) n; constructor <;> linarith
    · exact seriesSine_range i n

/-- `SIN_EXACT` of the reference. -/
theorem referenceSine_exact (i n q : Nat) (h : i < n) (hq : 4 * i = q * n) : referenceSine i n = quarterValue q := by
  unfold referenceSine
  rw [hq, Nat.mul_mod_left, if_pos rfl, Nat.mul_div_cancel _ (by omega)]

/-- `SIN_ODD` of the reference. -/
theorem referenceSine_odd (i n : Nat) (he : n % 2 = 0) (h : i < n / 2) :
    referenceSine (i + n / 2) n = -referenceSine i n := by
  have e : 4 * (i + n / 2) = 4 * i + 2 * n := by omega
  unfold referenceSine
  rw [e, Nat.add_mul_mod_self_right, Nat.add_mul_div_right _ _ (by omega : 0 < n)]
  split
  · exact quarterValue_add_two _
  · rw [if_pos ⟨he, by omega⟩, if_neg (by omega), Nat.add_sub_cancel]

/-- `SIN_CLOSE` of the reference. -/
theorem referenceSine_close (i n : Nat) (h : i < n) :
    |(referenceSine i n : ℝ) - Real.sin (2 * Real.pi * i / n)| ≤ 1 / 2 ^ 24 := by
  unfold referenceSine
  split
  · rename_i hz
    rw [sin_quarter i n (4 * i / n) h (Nat.div_mul_cancel (Nat.dvd_of_mod_eq_zero hz)).symm, sub_self, abs_zero]
    positivity
  · split
    · rename_i hh
      have hs := sin_half_period (i - n / 2) n hh.1 (by omega)
      rw [Nat.sub_add_cancel hh.2] at hs
      rw [hs]
      push_cast
      rw [← neg_add', abs_neg, ← sub_eq_add_neg]
      exact seriesSine_close _ _ (by omega)
    · exact seriesSine_close i n h

/-- The reference as a numerics function: R8's properties can be met. -/
def referenceSinFunction : SinFunction where
  val := referenceSine
  range := fun i n _ => referenceSine_range i n
  exact := referenceSine_exact
  odd := referenceSine_odd
  close := referenceSine_close

end Sys2Proof
end

