-- ==== Sys2Proof/Config.lean ====
section
/-! DEFINITION. The implementation parameters of spec/00_scope.md section 3 (R2 to R11): the ones with a default as
a structure carried in the state, the OPEN ones and the free draws as opaque constants without a body. -/

namespace Sys2Proof

/-- `CMDCODE` (R9): the 3-bit wire command codes, and the fixed addresses and data values of configuration frames
(30_encoding.md R84 to R93). -/
structure CmdCode where
  /-- R84 write input register -/
  wrIn : BitVec 3
  /-- R86 update input register -/
  upd : BitVec 3
  /-- R87 write and update all; only DEV_WRITE's operands and the codec's produce it, so no rule reads this entry -/
  wrUpdAll : BitVec 3
  /-- R88 write and update -/
  wrUpd : BitVec 3
  /-- R85 the command of a gain-register frame -/
  gain : BitVec 3
  /-- R89 power mode -/
  power : BitVec 3
  /-- R90 software reset -/
  reset : BitVec 3
  /-- R91 synchronous-update mode register -/
  ldac : BitVec 3
  /-- R92 internal reference -/
  intref : BitVec 3
  /-- R85 the gain-select address -/
  gainAddr : BitVec 3
  /-- R93 the address of POWER, RESET, LDAC and INTREF frames -/
  cfgAddr : BitVec 3
  /-- R85 data of gain mode INT_VREF -/
  dataIntVref : U16
  /-- R85 data of gain mode A1_B2 -/
  dataA1B2 : U16
  /-- R85 data of gain mode A2_B1 -/
  dataA2B1 : U16
  /-- R85 data of gain mode RESET -/
  dataReset : U16
  /-- R90 data that resets the input registers -/
  dataRstInput : U16
  /-- R90 data of the factory reset -/
  dataRstFactory : U16
  /-- R89 data of a power frame, entry `2 · PD + i` for the power mode `PD` (R26) and the channel `i`, 0 A or 1 B -/
  powerData : Vector U16 8
  /-- R91 data of a synchronous-update mode, entry `LDAC_MODE` (R27) -/
  ldacData : Vector U16 4
  /-- R92 data that disables the reference -/
  dataRefOff : U16
  /-- R92 data that enables the reference -/
  dataRefOn : U16
deriving DecidableEq, Repr

/-- The default `CMDCODE`, the table of R84 to R93. The spec takes it from the DAC8562 family (PRESUMED by the spec
itself: 92_eei_decisions.md D5 to D11; log entry 4). -/
def CmdCode.dac8562 : CmdCode where
  wrIn := 0
  upd := 1
  wrUpdAll := 2
  wrUpd := 3
  gain := 0
  power := 4
  reset := 5
  ldac := 6
  intref := 7
  gainAddr := 2
  cfgAddr := 0
  dataIntVref := 0
  dataA1B2 := 1
  dataA2B1 := 2
  dataReset := 3
  dataRstInput := 0
  dataRstFactory := 1
  powerData := #v[0x01, 0x02, 0x11, 0x12, 0x21, 0x22, 0x31, 0x32]
  ldacData := #v[0, 1, 2, 3]
  dataRefOff := 0
  dataRefOn := 1

/-- The parameters with one value for the whole block. `NUM_OSC` and `TABLE_SIZE(o)` are held with the oscillators (log
entries 1 and 14), and `SIN` is the constant `Config.sin` (log entry 3). -/
structure Config where
  /-- `BIT_OFFSET` (R2): 0..4, so a value outside is no configuration -/
  bitOffset : Fin 5
  /-- `FULL_SCALE` (R3) -/
  fullScale : Nat
  /-- `CHAN_ID_A` (R4) -/
  chanIdA : Byte
  /-- `CHAN_ID_B` (R4) -/
  chanIdB : Byte
  /-- `SPS` (R7) -/
  sps : Nat
  /-- `VREF_RESET` (R10) -/
  vrefReset : Rat
  /-- `CMDCODE` (R9) -/
  cmd : CmdCode
deriving DecidableEq, Repr

/-- The ranges the spec gives the parameters: R3, R7, and R24 for the value `VREF` takes at reset. -/
abbrev Config.Ok (c : Config) : Prop :=
  (1 ≤ c.fullScale ∧ c.fullScale ≤ 65535) ∧ 1 ≤ c.sps ∧ (0 ≤ c.vrefReset ∧ c.vrefReset ≤ 5)

/-- OPEN parameter `TABLE_SIZE(o)` (R6), less one, so that every value is in 1..65536. No value is known
(log entry 2). -/
opaque Config.tableSizeLessOne : Nat → U16

/-- OPEN parameter `SPS` (R7), less one, so that it is positive. No value is known (log entry 2). -/
opaque Config.spsLessOne : Nat

/-- OPEN parameter `SIN` (R8): some function with the four properties that R8 names, and nothing else is known of it
(log entries 2 and 3). The argument says only that such functions exist. -/
opaque Config.sinFunction [Inhabited SinFunction] : SinFunction

/-- `SIN(i, N)` (R8). -/
def Config.sin (i n : Nat) : Rat := (@Config.sinFunction ⟨referenceSinFunction⟩).val i n

/-- `SIN_RANGE` of R8. -/
theorem Config.sin_range (i n : Nat) (h : i < n) : -1 ≤ Config.sin i n ∧ Config.sin i n ≤ 1 :=
  SinFunction.range _ i n h

/-- `SIN_EXACT` of R8: at the four quarter points the sample is exactly 0, 1, 0, -1. -/
theorem Config.sin_exact (i n q : Nat) (h : i < n) (hq : 4 * i = q * n) : Config.sin i n = quarterValue q :=
  SinFunction.exact _ i n q h hq

/-- `SIN_ODD` of R8. -/
theorem Config.sin_odd (i n : Nat) (he : n % 2 = 0) (h : i < n / 2) : Config.sin (i + n / 2) n = -Config.sin i n :=
  SinFunction.odd _ i n he h

/-- `SIN_CLOSE` of R8. -/
theorem Config.sin_close (i n : Nat) (h : i < n) :
    |(Config.sin i n : ℝ) - Real.sin (2 * Real.pi * i / n)| ≤ 1 / 2 ^ 24 :=
  SinFunction.close _ i n h

/-- The draw `BusOk` (R11) number `n`, for draws the state does not list: free, under no law (log entry 5). -/
opaque Config.busDraw : Nat → Bool

/-- `TABLE_SIZE(o)` of the machine that leaves reset. -/
def Config.tableSize (o : Nat) : Nat := (Config.tableSizeLessOne o).toNat + 1

/-- Every parameter at the spec's default, `SPS` open. -/
def Config.default : Config where
  bitOffset := 2
  fullScale := 16383
  chanIdA := 0
  chanIdB := 1
  sps := Config.spsLessOne + 1
  vrefReset := 5 / 2
  cmd := CmdCode.dac8562

/-- Default `NUM_OSC` (R5). -/
def Config.numOsc : Nat := 2

end Sys2Proof
end

