-- ==== Sys2Proof/Machine/Types.lean ====
section
/-! DEFINITION. The value sets of the state elements of spec/10_state.md section 2, the events of EVLOG, the responses,
and the inputs of a step. -/

namespace Sys2Proof.Machine

/-- A channel slot (R31). -/
inductive Slot where
  | a
  | b
deriving DecidableEq, Repr

/-- A control line (R65). -/
inductive Line where
  | ldac
  | clr
deriving DecidableEq, Repr

/-- A gain factor, 1 or 2 (R32). -/
inductive Gain where
  | one
  | two
deriving DecidableEq, Repr

/-- The factor as a number. -/
def Gain.factor : Gain → Nat
  | .one => 1
  | .two => 2

/-- The gain modes of R107. -/
inductive GainMode where
  | intVref
  | a1b2
  | a2b1
  | reset
deriving DecidableEq, Repr

/-- The waveform kinds (R38). -/
inductive Kind where
  | sine
  | saw
  | arb
deriving DecidableEq, Repr

/-- The sticky fault register `FAULT` (R30). -/
inductive FaultCode where
  | none
  | nonfinite
  | div0
  | bus
deriving DecidableEq, Repr

/-- The code a fault is observed as (R30, R260). -/
def FaultCode.number : FaultCode → Nat
  | .none => 0
  | .nonfinite => 1
  | .div0 => 2
  | .bus => 3

/-- A response's status (R112). -/
inductive Status where
  | ok
  | ign
deriving DecidableEq, Repr

/-- A response's value (R112), with its width. -/
inductive RespValue where
  | none
  | u3 (v : BitVec 3)
  | u16 (v : U16)
  | u24 (v : U24)
  | binary32 (v : U32)
deriving DecidableEq, Repr

/-- A response (R112). -/
structure Resp where
  status : Status
  value : RespValue
deriving DecidableEq, Repr

/-- An event of the output history `EVLOG` (R44, R64, R65). -/
inductive Event where
  | frame (b0 b1 b2 : Byte)
  | pulse (line : Line)
deriving DecidableEq, Repr

/-- What the environment does next (R71, R270, R290). The control word itself is taken from the control stream, so
that a word offered in the fault state stays unconsumed (R266). -/
inductive Input where
  /-- the controller offers the next control word -/
  | word
  /-- the sample clock fires (R238) -/
  | tick
  /-- reset is applied (R290) -/
  | reset
  /-- one exchange of this wire frame on the frame port. The block has no such input of its own: it stands for the
  transaction at the end of `Write`, so that a wire-frame row of the opcode table can be run (log entries 10, 11) -/
  | frame (f : U24)
deriving DecidableEq, Repr

/-- A register frame with its bit offset, the record the codec's functions work on (R22, R23). -/
structure Frame where
  raw0 : Byte
  raw1 : Byte
  raw2 : Byte
  /-- 0..4 (R23) -/
  off : Fin 5
deriving DecidableEq, Repr

/-- A channel slot's cached state (R32, R33). Its identity is a parameter (R31). -/
structure Channel where
  gain : Gain
  en : Bool
deriving DecidableEq, Repr

/-- A wavetable: its whole list of entries, so that `TABLE_SIZE` is its length and no entry can be absent or listed
twice (R43, R60; log entry 13). -/
abbrev Wavetable := List U16

/-- An oscillator (R34 to R43). -/
structure Osc where
  freq : Rat
  amp : Rat
  ph : Rat
  dc : Rat
  kind : Kind
  run : Bool
  idx : Nat
  bind : Slot
  vmode : Bool
  table : Wavetable
deriving DecidableEq, Repr

/-- `N = TABLE_SIZE(o)` (R6): no operation changes it. -/
def Osc.size (o : Osc) : Nat := o.table.length

end Sys2Proof.Machine
end

