-- ==== Sys2Proof/Machine/Operands.lean ====
section
/-! DEFINITION. Everything the meanings compute without touching the state: the arithmetic primitives of
spec/00_scope.md section 4, operand forms and enumerations (30_encoding.md R101, R105 to R107), the codec's pure
functions (40_codec.md), the voltage conversion (41_channel.md R160), and an oscillator's sampler, accumulator and
table generation (43_oscillator.md R226 to R241). All arithmetic is exact (R15). -/

namespace Sys2Proof.Machine

/-! ### Arithmetic (00_scope.md R12 to R15) -/

/-- `round_ha` (R12): nearest integer, ties away from zero. -/
def roundHa (q : Rat) : Int := if 0 ≤ q then ⌊q + 1 / 2⌋ else -⌊-q + 1 / 2⌋

/-- `clamp` on rationals. -/
def clampRat (x lo hi : Rat) : Rat := min (max x lo) hi

/-- `clamp` on integers. -/
def clampInt (x lo hi : Int) : Int := min (max x lo) hi

/-- `q mod n` for rational `q` and `n > 0`: the `r` in `[0, n)` with `q - r` a multiple of `n`. -/
def modRat (q : Rat) (n : Nat) : Rat := q - n * ⌊q / n⌋

/-- The exponent field of a binary32 word. -/
def expField (w : U32) : Nat := (w.extractLsb' 23 8).toNat

/-- The fraction field of a binary32 word. -/
def fracField (w : U32) : Nat := (w.extractLsb' 0 23).toNat

/-- `f32` (R13): the exact value of a binary32 word, none if it is non-finite (exponent all ones). The significand has
a hidden 1 unless the exponent field is 0, and the unit of the least exponent is `2^-149`. -/
def f32 (w : U32) : Option Rat :=
  if expField w = 255 then none else
    let mant := if expField w = 0 then fracField w else 2 ^ 23 + fracField w
    let mag : Rat := (mant * 2 ^ max (expField w) 1 : Nat) / (2 ^ 150 : Nat)
    some (if w.msb then -mag else mag)

/-- The greatest `e` with `2^e ≤ a`, for `a > 0`. -/
def floorLog2 (a : Rat) : Int :=
  let g : Int := (a.num.natAbs.log2 : Int) - a.den.log2
  let reached : Bool := if 0 ≤ g then a.den * 2 ^ g.toNat ≤ a.num.natAbs else a.den ≤ a.num.natAbs * 2 ^ (-g).toNat
  if reached then g else g - 1

/-- The nearest natural to a non-negative rational, ties to even. -/
def roundEven (q : Rat) : Nat :=
  let f := ⌊q⌋.toNat
  if q - f < 1 / 2 then f else if 1 / 2 < q - f then f + 1 else f + f % 2

/-- `a / 2^k`. -/
def scaleDown (a : Rat) (k : Int) : Rat :=
  if 0 ≤ k then a / (2 ^ k.toNat : Nat) else a * (2 ^ (-k).toNat : Nat)

/-- `rne32` (R14): the nearest binary32 word, ties to even. The significand is rounded in units of `2^k`, with `k` the
exponent of the last place of a 24-bit significand, at least -149; a significand that rounds up to `2^24` carries into
the exponent field. A magnitude past the greatest finite value becomes infinity, which no `CH_D2V` of a state in range
reaches (PRESUMED: IEEE 754; log entry 15). -/
def rne32 (q : Rat) : U32 :=
  if q = 0 then 0 else
    let k := max (floorLog2 |q| - 23) (-149)
    let magnitude := min ((k + 149).toNat * 2 ^ 23 + roundEven (scaleDown |q| k)) 0x7F800000
    BitVec.ofNat 32 (if q < 0 then 2 ^ 31 + magnitude else magnitude)

/-! ### Selectors and enumerations (R105 to R107, R150) -/

/-- The slot a SEL names, if any (R105, R150). -/
def slotOf (sel : Byte) : Option Slot :=
  if sel = 0 then some .a else if sel = 1 then some .b else none

/-- The slot an OSC_BIND operand names (R106, R235). -/
def slotOperand (v : U16) : Option Slot :=
  if v = 0 then some .a else if v = 1 then some .b else none

/-- The gain mode an operand names (R106, R107). -/
def gainModeOf (v : U16) : Option GainMode :=
  if v = 0 then some .intVref
  else if v = 1 then some .a1b2
  else if v = 2 then some .a2b1
  else if v = 3 then some .reset
  else none

/-- The waveform kind an operand names (R106, R107). -/
def kindOf (v : U16) : Option Kind :=
  if v = 0 then some .sine else if v = 1 then some .saw else if v = 2 then some .arb else none

/-- A 2-bit mode operand, saturated at 3 (R106, R188, R190). -/
def modeOf (v : U16) : BitVec 2 := BitVec.ofNat 2 (min v.toNat 3)

/-- A bit-offset operand, saturated at 4 (R106, R132). -/
def offsetOf (v : U16) : Fin 5 := ⟨min v.toNat 4, by omega⟩

/-- The identities a channel operation accepts (R4, R151). -/
def validId (id : Byte) : Bool := id == 0 || id == 1

/-- The gain factor a mode gives a slot of valid identity (R161). -/
def gainFactor (mode : GainMode) (id : Byte) : Gain :=
  match mode with
  | .intVref => .two
  | .a1b2 => if id = 0 then .one else .two
  | .a2b1 => if id = 0 then .two else .one
  | .reset => .one

/-- The data of a gain-register frame (R85). -/
def gainData (c : CmdCode) : GainMode → U16
  | .intVref => c.dataIntVref
  | .a1b2 => c.dataA1B2
  | .a2b1 => c.dataA2B1
  | .reset => c.dataReset

/-- The data of a power frame for a power mode and a slot of valid identity (R89), which is `(PD << 4) | (1 << id)` for
the default `CMDCODE`. -/
def powerData (c : CmdCode) (pd : BitVec 2) (id : Byte) : U16 :=
  c.powerData[2 * pd.toNat + if id = 0 then 0 else 1]'(by have := pd.isLt; split <;> omega)

/-- The data of a synchronous-update frame (R91), which is the mode itself for the default `CMDCODE`. -/
def ldacData (c : CmdCode) (mode : BitVec 2) : U16 := c.ldacData[mode.toNat]

/-! ### The codec's pure functions (40_codec.md) -/

/-- The all-zero frame with a bit offset. -/
def freshFrame (off : Fin 5) : Frame := ⟨0, 0, 0, off⟩

/-- `packData` (R133). -/
def packData (f : Frame) (v : U16) : Frame :=
  { f with raw1 := (v <<< f.off.val).extractLsb' 8 8, raw2 := (v <<< f.off.val).extractLsb' 0 8 }

/-- `packAddress` (R134): saturated at 7, bits 7:3 kept. -/
def packAddress (f : Frame) (a : Nat) : Frame :=
  { f with raw0 := (f.raw0 &&& 0xF8) ||| BitVec.ofNat 8 (min a 7) }

/-- `packCmd` (R135): saturated at 7, bits 7:6 and 2:0 kept. -/
def packCommand (f : Frame) (c : Nat) : Frame :=
  { f with raw0 := (f.raw0 &&& 0xC7) ||| (BitVec.ofNat 8 (min c 7) <<< 3) }

/-- `unpackData` (R136): the data field as transmitted, not shifted back. -/
def unpackDataField (f : Frame) : U16 := f.raw1 ++ f.raw2

/-- `unpackAddress` (R137). -/
def unpackAddress (f : Frame) : BitVec 3 := f.raw0.extractLsb' 0 3

/-- `unpackCmd` (R138). -/
def unpackCommand (f : Frame) : BitVec 3 := f.raw0.extractLsb' 3 3

/-- The 24-bit value of three frame bytes (R80). -/
def frameValue (b0 b1 b2 : Byte) : U24 := b0 ++ b1 ++ b2

/-- The frame `Write` builds (R180): fresh, address, command, then data. -/
def buildFrame (data : U16) (addr cmd : Nat) (off : Fin 5) : Frame :=
  packData (packCommand (packAddress (freshFrame off) addr) cmd) data

/-! ### Channel conversions (41_channel.md) -/

/-- `V2C` (R160), on the slot's `VREF` and gain: none where the denominator is 0 (`F_DIV0`, R262). -/
def voltsToCode (fullScale : Nat) (vref : Rat) (gain : Gain) (volts : Rat) : Option U16 :=
  if vref * gain.factor = 0 then none
  else some (BitVec.ofNat 16
    (min (roundHa (|volts| * fullScale / (vref * gain.factor))) fullScale).toNat)

/-- The volts of a code (R158). -/
def codeToVolts (fullScale : Nat) (vref : Rat) (gain : Gain) (code : U16) : Rat :=
  code.toNat * vref * gain.factor / fullScale

/-! ### Wavetable memory (20_memory.md R60, R61) -/

/-- `MemRead`: an entry outside the table does not exist. -/
def memRead (t : Wavetable) (i : Nat) : Option U16 := t[i]?

/-- `MemWrite`, for an entry that exists. -/
def memWrite (t : Wavetable) (i : Nat) (v : U16) : Wavetable := t.set i v

/-! ### Oscillators (43_oscillator.md) -/

/-- One entry of a generated table (R226, R227): `M + dc·M + amp·M·x`, rounded and clamped, `M = FULL_SCALE / 2`. -/
def tableEntry (fullScale : Nat) (amp dc x : Rat) : U16 :=
  let m : Rat := fullScale / 2
  BitVec.ofNat 16 (clampInt (roundHa (m + dc * m + amp * m * x)) 0 fullScale).toNat

/-- The rising ramp of R228. -/
def sawSample (n i : Nat) : Rat := 2 * i / n - 1

/-- `REGEN` (R226, R229): every entry of a SINE or SAW table is written, an ARB table is left alone. -/
def Osc.regen (fullScale : Nat) (o : Osc) : Osc :=
  match o.kind with
  | .sine => { o with table := (List.range o.size).map fun i => tableEntry fullScale o.amp o.dc (Config.sin i o.size) }
  | .saw => { o with table := (List.range o.size).map fun i => tableEntry fullScale o.amp o.dc (sawSample o.size i) }
  | .arb => o

/-- The read position (R240). -/
def Osc.pos (o : Osc) : Rat := o.idx + o.ph

/-- `SAMPLE` (R240): the two entries beside the read position, blended by its fractional part. None only where an
entry does not exist, which takes an empty table. -/
def Osc.sample (o : Osc) : Option U16 :=
  let k := (⌊o.pos⌋ % (o.size : Int)).toNat
  let fr := o.pos - ⌊o.pos⌋
  match memRead o.table k, memRead o.table ((k + 1) % o.size) with
  | some a, some b => some (BitVec.ofNat 16 (roundHa (a.toNat + fr * ((b.toNat : Rat) - a.toNat))).toNat)
  | _, _ => none

/-- The integral step (R241). -/
def Osc.stepSize (sps : Nat) (o : Osc) : Int := ⌊o.freq * o.size / sps⌋

/-- `ADVANCE` (R241). -/
def Osc.advance (sps : Nat) (o : Osc) : Osc :=
  { o with idx := ((o.idx + o.stepSize sps) % (o.size : Int)).toNat }

/-- An oscillator at its reset values (S17 to S26), its table regenerated (R290); its table size is a parameter and
stays. `o` is its number: even ones are SINE and bound to A, odd ones SAW and bound to B. -/
def Osc.atReset (fullScale o : Nat) (table : Wavetable) : Osc :=
  Osc.regen fullScale
    { freq := 0
      amp := 1
      ph := 0
      dc := 0
      kind := if o % 2 = 0 then .sine else .saw
      run := false
      idx := 0
      bind := if o % 2 = 0 then .a else .b
      vmode := false
      table := table }

end Sys2Proof.Machine
end

