-- ==== Sys2Proof/Machine/State.lean ====
section
/-! DEFINITION. The state: S1 to S29 of spec/10_state.md section 2, the parameters (10_state.md R45; log entry 1), and
the inputs still to come (log entries 5, 6). Also the reasons a step can stop, and the state after reset. -/

namespace Sys2Proof.Machine

/-- The state of the block. -/
structure State where
  /-- the parameters of 00_scope.md: no step changes them -/
  cfg : Config
  /-- S1 to S4, the codec's scratch frame -/
  fr : Frame
  /-- S5 -/
  vref : Rat
  /-- S6 -/
  intrefEn : Bool
  /-- S7 -/
  pdMode : BitVec 2
  /-- S8 -/
  ldacMode : BitVec 2
  /-- S9 -/
  syncAtt : Bool
  /-- S10 -/
  clrAtt : Bool
  /-- S11 -/
  lastFrame : U24
  /-- S12 -/
  fault : FaultCode
  /-- S13, S14 -/
  chA : Channel
  /-- S15, S16 -/
  chB : Channel
  /-- S17 to S26, oscillators 0 to `NUM_OSC - 1` -/
  oscs : List Osc
  /-- S27, oldest event first -/
  evlog : List Event
  /-- S28 -/
  pc : Nat
  /-- S29 -/
  resp : Option Resp
  /-- the model's own: the control stream, word 0 first (R21) -/
  stream : List ControlWord
  /-- the model's own: the inputs still to come, in order (R71) -/
  inputs : List Input
  /-- the model's own: the `BusOk` draws still to come (R11) -/
  bus : List Bool
  /-- the model's own: how many draws were made -/
  busDrawn : Nat
deriving DecidableEq, Repr

/-- Why the model itself stops. The three faults of the spec are no such reason: taking one is a next state, with
`FAULT` written (R266). -/
inductive Fault where
  /-- Raised by a tick (the TICK word or the tick input) when a Running oscillator's table has no entry to read. The
  spec gives every table at least one entry (R6), so no state in range raises it. Safe: the model stops where the
  spec says nothing. -/
  | emptyTable
deriving DecidableEq, Repr

/-- Why the model gives an instruction no meaning. -/
inductive Refusal where
  /-- Raised by `exec` for an instruction with no meaning yet; no arm uses it. Safe: the model stops. -/
  | notModelled (mnemonic : String)
deriving DecidableEq, Repr

/-- What `exec` and `step` answer. -/
abbrev Result := Host.Outcome State Fault Refusal

/-- Every element of S1 to S29 at its reset value (10_state.md section 2, R290), for given parameters; the inputs are
given too, since reset does not choose them. -/
def State.atReset (cfg : Config) (oscs : List Osc) (stream : List ControlWord) (inputs : List Input)
    (bus : List Bool) (busDrawn : Nat) : State where
  cfg := cfg
  fr := freshFrame cfg.bitOffset
  vref := cfg.vrefReset
  intrefEn := false
  pdMode := 1
  ldacMode := 0
  syncAtt := false
  clrAtt := false
  lastFrame := 0
  fault := .none
  chA := ⟨.one, false⟩
  chB := ⟨.one, false⟩
  oscs := oscs.zipIdx.map fun p => Osc.atReset cfg.fullScale p.2 p.1.table
  evlog := []
  pc := 0
  resp := none
  stream := stream
  inputs := inputs
  bus := bus
  busDrawn := busDrawn

/-- An oscillator's parameter alone, for `State.atReset`: a table of its size, whose contents reset replaces. -/
def Osc.blank (n : Nat) : Osc where
  freq := 0
  amp := 0
  ph := 0
  dc := 0
  kind := .arb
  run := false
  idx := 0
  bind := .a
  vmode := false
  table := List.replicate n 0

/-- The machine right after reset (R290), every parameter at its default, the OPEN ones open; nothing is offered on
its inputs (R291; log entry 6). -/
def State.reset : State :=
  State.atReset Config.default
    ((List.range Config.numOsc).map fun o => Osc.blank (Config.tableSize o)) [] [] [] 0

end Sys2Proof.Machine
end

