-- ==== Sys2Proof/Machine/Flags.lean ====
section
/-! DEFINITION. The block has no condition codes (spec/10_state.md R46). Its flags are the Booleans `CH[s].en`,
`OSC[o].run`, `INTREF_EN`, `SYNC_ATT`, `CLR_ATT`, and the one status an operation reports is that of its response
(30_encoding.md R112). This file holds every write of a flag and of a response. -/

namespace Sys2Proof.Machine

/-- `CH[s]`. -/
def State.channel (s : State) : Slot → Channel
  | .a => s.chA
  | .b => s.chB

/-- `CH[s] <- c`. -/
def State.setChannel (s : State) : Slot → Channel → State
  | .a, c => { s with chA := c }
  | .b, c => { s with chB := c }

/-- `CH[s].en <- v` (R33). -/
def State.setEn (s : State) (slot : Slot) (v : Bool) : State :=
  s.setChannel slot { s.channel slot with en := v }

/-- `CH[s].gain <- g` (R32). -/
def State.setGain (s : State) (slot : Slot) (g : Gain) : State :=
  s.setChannel slot { s.channel slot with gain := g }

/-- `OSC[o].run <- v` (R39), on the oscillator's record. -/
def Osc.setRun (o : Osc) (v : Bool) : Osc := { o with run := v }

/-- `INTREF_EN <- v` (R25). -/
def State.setIntrefEn (s : State) (v : Bool) : State := { s with intrefEn := v }

/-- `SYNC_ATT <- v` (R28). -/
def State.setSyncAtt (s : State) (v : Bool) : State := { s with syncAtt := v }

/-- `CLR_ATT <- v` (R28). -/
def State.setClrAtt (s : State) (v : Bool) : State := { s with clrAtt := v }

/-- The response of a control word that executed, and `pc <- pc + 1`: every control word does both, whatever its
status (R21, R112). -/
def State.respond (s : State) (status : Status) (value : RespValue) : State :=
  { s with resp := some ⟨status, value⟩, pc := s.pc + 1 }

/-- `resp <- (OK, value)`. -/
def State.ok (s : State) (value : RespValue) : State := s.respond .ok value

/-- `resp <- (IGN, none)` (R104 to R106, R151). -/
def State.ignore (s : State) : State := s.respond .ign .none

end Sys2Proof.Machine
end

