-- ==== Sys2Proof/Machine/Ops.lean ====
section
/-! DEFINITION. The shared operations: taking a fault and the fault state (spec/60_exceptions.md R266), the only way
out of it, reset (70_reset_and_hazards.md R290), the bus draw and the write choke point (42_device.md R180), pulses
(20_memory.md R65), the selection of a slot or an oscillator (R105, R150, R219), and the bodies that several
operations share. -/

namespace Sys2Proof.Machine

/-! ### Faults (60_exceptions.md section 3) -/

/-- `raise Fault(code)` (R266): `FAULT` takes the code if it holds none. The step ends here, which `State.andThen`
does; there is no response and `pc` stays. -/
def State.raise (s : State) (code : FaultCode) : State :=
  if s.fault = .none then { s with fault := code } else s

/-- The next part of a step. In the fault state nothing is done: after a raise the rest of the step is skipped, and
what was done before it stays done; a word or tick that arrives in the fault state does nothing (R266). -/
def State.andThen (s : State) (next : State → State) : State :=
  if s.fault = .none then next s else s

/-- Reset (R290), the one return from a fault (R268): every element of S1 to S29 takes its reset value; parameters and
the environment's inputs stay (log entry 7). -/
def State.applyReset (s : State) : State :=
  State.atReset s.cfg s.oscs s.stream s.inputs s.bus s.busDrawn

/-! ### The bus (R11, R64, R180) -/

/-- The draw `BusOk` for the next frame (R11): the first one listed, or a free value. -/
def State.busOk (s : State) : Bool :=
  match s.bus with
  | [] => Config.busDraw s.busDrawn
  | ok :: _ => ok

/-- The draw is made. -/
def State.afterDraw (s : State) : State :=
  { s with bus := s.bus.tail, busDrawn := s.busDrawn + 1 }

/-- `Emit(b0, b1, b2)` and `LAST_FRAME` (R64, R180). -/
def State.emit (s : State) (b0 b1 b2 : Byte) : State :=
  { s with evlog := s.evlog ++ [.frame b0 b1 b2], lastFrame := frameValue b0 b1 b2 }

/-- One bus exchange of a frame, the end of `Write` (R180): if it does not complete, `F_BUS` and nothing is logged
(R263); else the frame is logged and becomes `LAST_FRAME`. -/
def State.exchange (s : State) (b0 b1 b2 : Byte) : State :=
  if s.busOk then s.afterDraw.emit b0 b1 b2 else s.afterDraw.raise .bus

/-- `Write(data, addr, cmd, cfg)` (R180): the frame is fresh, its offset 0 for a config write. -/
def State.write (s : State) (data : U16) (addr cmd : Nat) (cfgWrite : Bool) : State :=
  let f := buildFrame data addr cmd (if cfgWrite then 0 else s.cfg.bitOffset)
  s.exchange f.raw0 f.raw1 f.raw2

/-- `Pulse(line)` (R65). -/
def State.pulse (s : State) (line : Line) : State := { s with evlog := s.evlog ++ [.pulse line] }

/-! ### The shape of a control word -/

/-- A control word: it is consumed only outside the fault state (R266). -/
def State.control (s : State) (body : State → State) : Result := .next (s.andThen body)

/-- The response of an operation that sends a frame: `(OK, LAST_FRAME)`, unless the step has faulted (R112). -/
def State.okFrame (s : State) : State := s.andThen fun s => s.ok (.u24 s.lastFrame)

/-- A real operand (R13, R261): a non-finite word faults. -/
def State.withReal (s : State) (w : U32) (body : Rat → State → State) : State :=
  match f32 w with
  | none => s.raise .nonfinite
  | some q => body q s

/-! ### Channel slots (41_channel.md section 1) -/

/-- `CH[s].id` (R31). -/
def State.chanId (s : State) : Slot → Byte
  | .a => s.cfg.chanIdA
  | .b => s.cfg.chanIdB

/-- R151 inside a larger step: an invalid identity makes the channel's part of it a no-op that clears `en`. -/
def State.onSlot (s : State) (slot : Slot) (body : State → State) : State :=
  if validId (s.chanId slot) then body s else s.setEn slot false

/-- R150 and R151 for a channel control word: SEL first, then the identity. -/
def State.channelWord (s : State) (sel : Byte) (body : Slot → State → State) : Result :=
  s.control fun s =>
    match slotOf sel with
    | none => s.ignore
    | some slot => if validId (s.chanId slot) then body slot s else (s.setEn slot false).ignore

/-- `SETOUT` (R152), without its response. -/
def State.setOut (s : State) (slot : Slot) (code : U16) (au : Bool) : State :=
  s.write code (s.chanId slot).toNat (if au then s.cfg.cmd.wrUpd else s.cfg.cmd.wrIn).toNat false

/-- `V2C` (R160) and what follows it: a zero denominator faults `F_DIV0` (R262). -/
def State.withCode (s : State) (slot : Slot) (volts : Rat) (body : U16 → State → State) : State :=
  match voltsToCode s.cfg.fullScale s.vref (s.channel slot).gain volts with
  | none => s.raise .div0
  | some code => body code s

/-- A configuration frame of R89 to R92. -/
def State.writeConfig (s : State) (data : U16) (cmd : BitVec 3) : State :=
  s.write data s.cfg.cmd.cfgAddr.toNat cmd.toNat true

/-- The body of `CH_GAIN` (R154): the frame, then the slot's own cache. -/
def State.gainBody (s : State) (slot : Slot) (mode : GainMode) : State :=
  (s.write (gainData s.cfg.cmd mode) s.cfg.cmd.gainAddr.toNat s.cfg.cmd.gain.toNat true).andThen fun s =>
    s.setGain slot (gainFactor mode (s.chanId slot))

/-- The body of `CH_EN` and `CH_DIS` (R156, R157): the POWER frame of the slot, then the flag. -/
def State.powerBody (s : State) (slot : Slot) (pd : BitVec 2) (en : Bool) : State :=
  (s.writeConfig (powerData s.cfg.cmd pd (s.chanId slot)) s.cfg.cmd.power).andThen fun s => s.setEn slot en

/-! ### Device sequences (42_device.md) -/

/-- `SYNCMODE` (R188), without its response. -/
def State.syncModeBody (s : State) (mode : BitVec 2) : State :=
  (s.writeConfig (ldacData s.cfg.cmd mode) s.cfg.cmd.ldac).andThen fun s => { s with ldacMode := mode }

/-- `INTREF` (R184), without its response: the reference frame, its cache, then the gain of A and of B. -/
def State.intrefBody (s : State) (e : Bool) : State :=
  let mode : GainMode := if e then .intVref else .reset
  (((s.writeConfig (if e then s.cfg.cmd.dataRefOn else s.cfg.cmd.dataRefOff) s.cfg.cmd.intref).andThen
      fun s => s.setIntrefEn e).andThen
      fun s => s.onSlot .a fun s => s.gainBody .a mode).andThen
      fun s => s.onSlot .b fun s => s.gainBody .b mode

/-- `PD_MODE <- m`. -/
def State.setPdMode (s : State) (m : BitVec 2) : State := { s with pdMode := m }

/-- `DEFAULT` (R182), without its response: power-down mode 1 of R26, both channels disabled, mode 3 of R27 (no channel
follows LDAC), the reference on. The mode numbers are R182's; their data on the wire are `CMDCODE`'s. -/
def State.defaultBody (s : State) : State :=
  ((((s.setPdMode 1).andThen
      fun s => s.onSlot .a fun s => s.powerBody .a s.pdMode false).andThen
      fun s => s.onSlot .b fun s => s.powerBody .b s.pdMode false).andThen
      fun s => s.syncModeBody 3).andThen
      fun s => s.intrefBody true

/-! ### Oscillators and the tick (43_oscillator.md) -/

/-- `OSC[o] <- osc`. -/
def State.setOsc (s : State) (o : Nat) (osc : Osc) : State := { s with oscs := s.oscs.set o osc }

/-- R219 for an oscillator control word: SEL names an oscillator or the word is ignored. -/
def State.oscWord (s : State) (sel : Byte) (body : Osc → State → State) : Result :=
  s.control fun s =>
    match s.oscs[sel.toNat]? with
    | none => s.ignore
    | some osc => body osc s

/-- `FORWARD` (R242): a write-and-update to the bound slot, through the voltage conversion in voltage mode. -/
def State.forward (s : State) (osc : Osc) (code : U16) : State :=
  s.onSlot osc.bind fun s =>
    if osc.vmode then
      s.withCode osc.bind (code.toNat * s.vref / s.cfg.fullScale) fun code s => s.setOut osc.bind code true
    else s.setOut osc.bind code true

/-- One oscillator's part of a tick (R239): sample, advance, forward, if it is Running. -/
def State.tickOsc (s : State) (o : Nat) : State :=
  match s.oscs[o]? with
  | none => s
  | some osc =>
    if osc.run then
      match osc.sample with
      | none => s
      | some code => (s.setOsc o (osc.advance s.cfg.sps)).forward osc code
    else s

/-- A tick (R239): the oscillators in ascending order; after a fault the rest are not processed. -/
def State.tickAll (s : State) : State :=
  (List.range s.oscs.length).foldl (fun s o => s.andThen fun s => s.tickOsc o) s

/-- Whether a tick would sample a Running oscillator whose table has no entry: never so in a state in range (R6). -/
def State.tickLacksEntry (s : State) : Bool := s.oscs.any fun osc => osc.run && osc.sample.isNone

/-- A tick, and what follows it; in the fault state it does nothing (R266). -/
def State.withTick (s : State) (after : State → State) : Result :=
  if s.fault = .none ∧ s.tickLacksEntry = true then .fault .emptyTable
  else .next (s.andThen fun s => after s.tickAll)

/-- A tick on the tick input (R238, R239): no response, `pc` stays (R21). -/
def State.tickInput (s : State) : Result := s.withTick id

/-! ### The control stream (R21, R74) -/

/-- The control word offered next: word `pc` of the stream. -/
def State.fetchWord (s : State) : Option ControlWord := s.stream[s.pc]?

/-- `stream` with `w` as word `n`; words before it that do not exist become 0. -/
def placeWord : List ControlWord → Nat → ControlWord → List ControlWord
  | [], 0, w => [w]
  | [], n + 1, w => 0 :: placeWord [] n w
  | _ :: rest, 0, w => w :: rest
  | x :: rest, n + 1, w => x :: placeWord rest n w

/-- `s` with these bits as its very next input: a control word is placed at word `pc` of the stream and offered, a
wire frame is put on the frame port. -/
def State.offer (s : State) (nbits w : Nat) : State :=
  if nbits ≤ 24 then { s with inputs := .frame (BitVec.ofNat 24 w) :: s.inputs }
  else { s with stream := placeWord s.stream s.pc (BitVec.ofNat 64 w), inputs := .word :: s.inputs }

/-- A wire frame on the frame port: RSV is 0 in every frame the device sends (R81); in the fault state no frame is sent
(R266). -/
def State.sendFrame (s : State) (b0 : Byte) (data : U16) : Result :=
  s.control fun s => s.exchange (b0 &&& 0x3F) (data.extractLsb' 8 8) (data.extractLsb' 0 8)

end Sys2Proof.Machine
end

