-- ==== Sys2Proof/Machine/Channel.lean ====
section
/-! DEFINITION. The channel control words (spec/41_channel.md R150 to R159). Every one selects its slot by SEL and
checks the slot's identity first (`State.channelWord`, R150, R151). -/

namespace Sys2Proof.Machine

/-- R152 -/
def execChSetout (sel : Byte) (code : U16) (au : Bool) (s : State) : Result :=
  s.channelWord sel fun slot s => (s.setOut slot code au).okFrame

/-- R153: finiteness, then the conversion, then SETOUT. -/
def execChSetv (sel : Byte) (au : Bool) (volts : U32) (s : State) : Result :=
  s.channelWord sel fun slot s => s.withReal volts fun q s => s.withCode slot q fun code s =>
    (s.setOut slot code au).okFrame

/-- R154: a mode above 3 is ignored; only this slot's cached factor changes. -/
def execChGain (sel : Byte) (mode : U16) (s : State) : Result :=
  s.channelWord sel fun slot s =>
    match gainModeOf mode with
    | none => s.ignore
    | some m => (s.gainBody slot m).okFrame

/-- R155 -/
def execChUpdate (sel : Byte) (s : State) : Result :=
  s.channelWord sel fun slot s => (s.write 0 (s.chanId slot).toNat s.cfg.cmd.upd.toNat false).okFrame

/-- R156: power mode 0 of R26 (its data on the wire is `CMDCODE`'s), then `en` is set. -/
def execChEn (sel : Byte) (s : State) : Result :=
  s.channelWord sel fun slot s => (s.powerBody slot 0 true).okFrame

/-- R157: power mode `PD_MODE`, then `en` is cleared. -/
def execChDis (sel : Byte) (s : State) : Result :=
  s.channelWord sel fun slot s => (s.powerBody slot s.pdMode false).okFrame

/-- R158 -/
def execChD2v (sel : Byte) (code : U16) (s : State) : Result :=
  s.channelWord sel fun slot s =>
    s.ok (.binary32 (rne32 (codeToVolts s.cfg.fullScale s.vref (s.channel slot).gain code)))

/-- R159 -/
def execChV2d (sel : Byte) (volts : U32) (s : State) : Result :=
  s.channelWord sel fun slot s => s.withReal volts fun q s => s.withCode slot q fun code s => s.ok (.u16 code)

end Sys2Proof.Machine
end

