-- ==== Sys2Proof/Machine/Codec.lean ====
section
/-! DEFINITION. The FrameCodec's control words (spec/40_codec.md R130 to R139), on the scratch frame `FR`. None can
fault or send a frame. -/

namespace Sys2Proof.Machine

/-- `FR <- f`. -/
def State.setFr (s : State) (f : Frame) : State := { s with fr := f }

/-- R130: the three bytes become 0, the offset stays. -/
def execFrClear (s : State) : Result := s.control fun s => (s.setFr (freshFrame s.fr.off)).ok .none

/-- R131 -/
def execFrLoad (frame : U24) (s : State) : Result := s.control fun s =>
  (s.setFr ⟨frame.extractLsb' 16 8, frame.extractLsb' 8 8, frame.extractLsb' 0 8, s.fr.off⟩).ok .none

/-- R132 -/
def execFrSetoff (value : U16) (s : State) : Result := s.control fun s =>
  (s.setFr { s.fr with off := offsetOf value }).ok .none

/-- R133 -/
def execPackData (value : U16) (s : State) : Result := s.control fun s =>
  (s.setFr (packData s.fr value)).ok .none

/-- R134 -/
def execPackAddr (value : U32) (s : State) : Result := s.control fun s =>
  (s.setFr (packAddress s.fr value.toNat)).ok .none

/-- R135 -/
def execPackCmd (value : U32) (s : State) : Result := s.control fun s =>
  (s.setFr (packCommand s.fr value.toNat)).ok .none

/-- R136 -/
def execUnpackData (s : State) : Result := s.control fun s => s.ok (.u16 (unpackDataField s.fr))

/-- R137 -/
def execUnpackAddr (s : State) : Result := s.control fun s => s.ok (.u3 (unpackAddress s.fr))

/-- R138 -/
def execUnpackCmd (s : State) : Result := s.control fun s => s.ok (.u3 (unpackCommand s.fr))

/-- R139 -/
def execFrRead (s : State) : Result := s.control fun s => s.ok (.u24 (frameValue s.fr.raw0 s.fr.raw1 s.fr.raw2))

end Sys2Proof.Machine
end

