-- ==== Sys2Proof/Machine/Device.lean ====
section
/-! DEFINITION. The ConverterDevice's control words (spec/42_device.md R181 to R195). None uses SEL. -/

namespace Sys2Proof.Machine

/-- R181: the bus connection is outside the block, so this is the default sequence. -/
def execDevInit (s : State) : Result := s.control fun s => s.defaultBody.okFrame

/-- R182 -/
def execDevDefault (s : State) : Result := s.control fun s => s.defaultBody.okFrame

/-- R183 -/
def execDevVref (volts : U32) (s : State) : Result := s.control fun s =>
  s.withReal volts fun q s => State.ok { s with vref := clampRat q 0 5 } .none

/-- R184: `e = IMM16[0]`. -/
def execDevIntref (value : U16) (s : State) : Result := s.control fun s => (s.intrefBody (value.getLsbD 0)).okFrame

/-- R185 -/
def execDevAttSync (s : State) : Result := s.control fun s => (s.setSyncAtt true).ok .none

/-- R185 -/
def execDevDetSync (s : State) : Result := s.control fun s => (s.setSyncAtt false).ok .none

/-- R186 -/
def execDevAttClr (s : State) : Result := s.control fun s => (s.setClrAtt true).ok .none

/-- R186 -/
def execDevDetClr (s : State) : Result := s.control fun s => (s.setClrAtt false).ok .none

/-- R188 -/
def execDevSyncmode (mode : U16) (s : State) : Result := s.control fun s => (s.syncModeBody (modeOf mode)).okFrame

/-- R189: the response is OK whether or not the line is attached. -/
def execDevLdacPulse (s : State) : Result := s.control fun s =>
  (if s.syncAtt then s.pulse .ldac else s).ok .none

/-- R190 -/
def execDevPdmode (mode : U16) (s : State) : Result := s.control fun s => (s.setPdMode (modeOf mode)).ok .none

/-- R191 -/
def execDevRstInput (s : State) : Result := s.control fun s =>
  (s.writeConfig s.cfg.cmd.dataRstInput s.cfg.cmd.reset).okFrame

/-- R192 -/
def execDevRstFactory (s : State) : Result := s.control fun s =>
  (s.writeConfig s.cfg.cmd.dataRstFactory s.cfg.cmd.reset).okFrame

/-- R193 -/
def execDevClrPulse (s : State) : Result := s.control fun s =>
  (if s.clrAtt then s.pulse .clr else s).ok .none

/-- R194 -/
def execDevWrite (data : U16) (addr cmd : Byte) (cfg : Bool) (s : State) : Result := s.control fun s =>
  (s.write data addr.toNat cmd.toNat cfg).okFrame

/-- R195 -/
def execDevLast (s : State) : Result := s.control fun s => s.ok (.u24 s.lastFrame)

end Sys2Proof.Machine
end

