-- ==== Sys2Proof/Machine/Oscillator.lean ====
section
/-! DEFINITION. The oscillator control words and the TICK word (spec/43_oscillator.md R220 to R239). Every oscillator
word selects its oscillator by SEL (`State.oscWord`, R219); only the tick sends frames. -/

namespace Sys2Proof.Machine

/-- R220 -/
def execOscEn (sel : Byte) (s : State) : Result := s.oscWord sel fun osc s =>
  (s.setOsc sel.toNat (osc.setRun true)).ok .none

/-- R221 -/
def execOscDis (sel : Byte) (s : State) : Result := s.oscWord sel fun osc s =>
  (s.setOsc sel.toNat (osc.setRun false)).ok .none

/-- R222 -/
def execOscFreq (sel : Byte) (value : U32) (s : State) : Result := s.oscWord sel fun osc s =>
  s.withReal value fun q s => (s.setOsc sel.toNat { osc with freq := q }).ok .none

/-- R223: the table is regenerated unless the kind is ARB. -/
def execOscAmp (sel : Byte) (value : U32) (s : State) : Result := s.oscWord sel fun osc s =>
  s.withReal value fun q s =>
    (s.setOsc sel.toNat (Osc.regen s.cfg.fullScale { osc with amp := clampRat q 0 1 })).ok .none

/-- R224 -/
def execOscPhase (sel : Byte) (value : U32) (s : State) : Result := s.oscWord sel fun osc s =>
  s.withReal value fun q s => (s.setOsc sel.toNat { osc with ph := modRat q osc.size }).ok .none

/-- R225: the table is regenerated unless the kind is ARB. -/
def execOscDc (sel : Byte) (value : U32) (s : State) : Result := s.oscWord sel fun osc s =>
  s.withReal value fun q s =>
    (s.setOsc sel.toNat (Osc.regen s.cfg.fullScale { osc with dc := clampRat q (-1) 1 })).ok .none

/-- R230: a kind above 2 is ignored; SINE and SAW regenerate the table, even when the kind does not change. -/
def execOscKind (sel : Byte) (kind : U16) (s : State) : Result := s.oscWord sel fun osc s =>
  match kindOf kind with
  | none => s.ignore
  | some k => (s.setOsc sel.toNat (Osc.regen s.cfg.fullScale { osc with kind := k })).ok .none

/-- R233: an index past the table is ignored. -/
def execOscTwr (sel : Byte) (code : U16) (index : U32) (s : State) : Result := s.oscWord sel fun osc s =>
  if index.toNat < osc.size then
    (s.setOsc sel.toNat { osc with table := memWrite osc.table index.toNat code }).ok .none
  else s.ignore

/-- R234 -/
def execOscTrd (sel : Byte) (index : U32) (s : State) : Result := s.oscWord sel fun osc s =>
  match memRead osc.table index.toNat with
  | none => s.ignore
  | some v => s.ok (.u16 v)

/-- R235: a slot above 1 is ignored. -/
def execOscBind (sel : Byte) (slot : U16) (s : State) : Result := s.oscWord sel fun osc s =>
  match slotOperand slot with
  | none => s.ignore
  | some target => (s.setOsc sel.toNat { osc with bind := target }).ok .none

/-- R236: `b = IMM16[0]`. -/
def execOscVmode (sel : Byte) (value : U16) (s : State) : Result := s.oscWord sel fun osc s =>
  (s.setOsc sel.toNat { osc with vmode := value.getLsbD 0 }).ok .none

/-- R237 -/
def execOscIdx (sel : Byte) (s : State) : Result := s.oscWord sel fun osc s =>
  s.ok (.u16 (BitVec.ofNat 16 osc.idx))

/-- R239, the control-word form: a tick, then `(OK, LAST_FRAME)` if it sent a frame, else `(OK, none)`. A tick appends
nothing to EVLOG but its frames, so it sent one just when EVLOG has grown. -/
def execTick (s : State) : Result := s.withTick fun t => t.andThen fun t =>
  t.ok (if s.evlog.length < t.evlog.length then .u24 t.lastFrame else .none)

end Sys2Proof.Machine
end

