-- ==== Sys2Proof/Machine/Wire.lean ====
section
/-! DEFINITION. The wire frames of spec/30_encoding.md R84 to R92, as rows of the opcode table. A wire frame is what
the block sends, so its meaning is the one bus exchange that sends it, the end of `Write` (20_memory.md R64,
42_device.md R180): the frame joins EVLOG and becomes LAST_FRAME, or the exchange fails with F_BUS. It is no control
word: `pc` and `resp` stay (log entry 10). What the converter does with it is outside the block
(00_scope.md section 2); Machine/Converter.lean holds the informative view. -/

namespace Sys2Proof.Machine

/-- R84 -/
def execFrameWrInA (data : U16) (s : State) : Result := s.sendFrame 0x00 data

/-- R84 -/
def execFrameWrInB (data : U16) (s : State) : Result := s.sendFrame 0x01 data

/-- R84 -/
def execFrameWrInBoth (data : U16) (s : State) : Result := s.sendFrame 0x07 data

/-- R85 -/
def execFrameGain (data : U16) (s : State) : Result := s.sendFrame 0x02 data

/-- R86 -/
def execFrameUpdA (data : U16) (s : State) : Result := s.sendFrame 0x08 data

/-- R86 -/
def execFrameUpdB (data : U16) (s : State) : Result := s.sendFrame 0x09 data

/-- R86 -/
def execFrameUpdBoth (data : U16) (s : State) : Result := s.sendFrame 0x0F data

/-- R87 -/
def execFrameWrUpdAllA (data : U16) (s : State) : Result := s.sendFrame 0x10 data

/-- R87 -/
def execFrameWrUpdAllB (data : U16) (s : State) : Result := s.sendFrame 0x11 data

/-- R87 -/
def execFrameWrUpdAllBoth (data : U16) (s : State) : Result := s.sendFrame 0x17 data

/-- R88 -/
def execFrameWrUpdA (data : U16) (s : State) : Result := s.sendFrame 0x18 data

/-- R88 -/
def execFrameWrUpdB (data : U16) (s : State) : Result := s.sendFrame 0x19 data

/-- R88 -/
def execFrameWrUpdBoth (data : U16) (s : State) : Result := s.sendFrame 0x1F data

/-- R89 -/
def execFramePower (data : U16) (s : State) : Result := s.sendFrame 0x20 data

/-- R90 -/
def execFrameReset (data : U16) (s : State) : Result := s.sendFrame 0x28 data

/-- R91 -/
def execFrameLdac (data : U16) (s : State) : Result := s.sendFrame 0x30 data

/-- R92 -/
def execFrameIntref (data : U16) (s : State) : Result := s.sendFrame 0x38 data

end Sys2Proof.Machine
end

