-- ==== Sys2Proof/Machine/Dispatch.lean ====
section
/-! DEFINITION. The meaning of each instruction: one arm per constructor of Instr, one call per arm. -/

namespace Sys2Proof.Machine

-- One arm per row of spec/opcode_table.json.
def exec (i : Instr) (s : State) : Host.Outcome State Fault Refusal :=
  match i with
  | .frClear => Sys2Proof.Machine.execFrClear s
  | .frLoad frame => Sys2Proof.Machine.execFrLoad frame s
  | .frSetoff value => Sys2Proof.Machine.execFrSetoff value s
  | .packData value => Sys2Proof.Machine.execPackData value s
  | .packAddr value => Sys2Proof.Machine.execPackAddr value s
  | .packCmd value => Sys2Proof.Machine.execPackCmd value s
  | .unpackData => Sys2Proof.Machine.execUnpackData s
  | .unpackAddr => Sys2Proof.Machine.execUnpackAddr s
  | .unpackCmd => Sys2Proof.Machine.execUnpackCmd s
  | .frRead => Sys2Proof.Machine.execFrRead s
  | .chSetout sel code au => Sys2Proof.Machine.execChSetout sel code au s
  | .chSetv sel au volts => Sys2Proof.Machine.execChSetv sel au volts s
  | .chGain sel mode => Sys2Proof.Machine.execChGain sel mode s
  | .chUpdate sel => Sys2Proof.Machine.execChUpdate sel s
  | .chEn sel => Sys2Proof.Machine.execChEn sel s
  | .chDis sel => Sys2Proof.Machine.execChDis sel s
  | .chD2v sel code => Sys2Proof.Machine.execChD2v sel code s
  | .chV2d sel volts => Sys2Proof.Machine.execChV2d sel volts s
  | .devInit => Sys2Proof.Machine.execDevInit s
  | .devDefault => Sys2Proof.Machine.execDevDefault s
  | .devVref volts => Sys2Proof.Machine.execDevVref volts s
  | .devIntref value => Sys2Proof.Machine.execDevIntref value s
  | .devAttSync => Sys2Proof.Machine.execDevAttSync s
  | .devDetSync => Sys2Proof.Machine.execDevDetSync s
  | .devAttClr => Sys2Proof.Machine.execDevAttClr s
  | .devDetClr => Sys2Proof.Machine.execDevDetClr s
  | .devSyncmode mode => Sys2Proof.Machine.execDevSyncmode mode s
  | .devLdacPulse => Sys2Proof.Machine.execDevLdacPulse s
  | .devPdmode mode => Sys2Proof.Machine.execDevPdmode mode s
  | .devRstInput => Sys2Proof.Machine.execDevRstInput s
  | .devRstFactory => Sys2Proof.Machine.execDevRstFactory s
  | .devClrPulse => Sys2Proof.Machine.execDevClrPulse s
  | .devWrite data addr cmd cfg => Sys2Proof.Machine.execDevWrite data addr cmd cfg s
  | .devLast => Sys2Proof.Machine.execDevLast s
  | .oscEn sel => Sys2Proof.Machine.execOscEn sel s
  | .oscDis sel => Sys2Proof.Machine.execOscDis sel s
  | .oscFreq sel value => Sys2Proof.Machine.execOscFreq sel value s
  | .oscAmp sel value => Sys2Proof.Machine.execOscAmp sel value s
  | .oscPhase sel value => Sys2Proof.Machine.execOscPhase sel value s
  | .oscDc sel value => Sys2Proof.Machine.execOscDc sel value s
  | .oscKind sel kind => Sys2Proof.Machine.execOscKind sel kind s
  | .oscTwr sel code index => Sys2Proof.Machine.execOscTwr sel code index s
  | .oscTrd sel index => Sys2Proof.Machine.execOscTrd sel index s
  | .oscBind sel slot => Sys2Proof.Machine.execOscBind sel slot s
  | .oscVmode sel value => Sys2Proof.Machine.execOscVmode sel value s
  | .oscIdx sel => Sys2Proof.Machine.execOscIdx sel s
  | .tick => Sys2Proof.Machine.execTick s
  | .frameWrInA data => Sys2Proof.Machine.execFrameWrInA data s
  | .frameWrInB data => Sys2Proof.Machine.execFrameWrInB data s
  | .frameWrInBoth data => Sys2Proof.Machine.execFrameWrInBoth data s
  | .frameGain data => Sys2Proof.Machine.execFrameGain data s
  | .frameUpdA data => Sys2Proof.Machine.execFrameUpdA data s
  | .frameUpdB data => Sys2Proof.Machine.execFrameUpdB data s
  | .frameUpdBoth data => Sys2Proof.Machine.execFrameUpdBoth data s
  | .frameWrUpdAllA data => Sys2Proof.Machine.execFrameWrUpdAllA data s
  | .frameWrUpdAllB data => Sys2Proof.Machine.execFrameWrUpdAllB data s
  | .frameWrUpdAllBoth data => Sys2Proof.Machine.execFrameWrUpdAllBoth data s
  | .frameWrUpdA data => Sys2Proof.Machine.execFrameWrUpdA data s
  | .frameWrUpdB data => Sys2Proof.Machine.execFrameWrUpdB data s
  | .frameWrUpdBoth data => Sys2Proof.Machine.execFrameWrUpdBoth data s
  | .framePower data => Sys2Proof.Machine.execFramePower data s
  | .frameReset data => Sys2Proof.Machine.execFrameReset data s
  | .frameLdac data => Sys2Proof.Machine.execFrameLdac data s
  | .frameIntref data => Sys2Proof.Machine.execFrameIntref data s

end Sys2Proof.Machine
end

