-- ==== Sys2Proof/Machine/Step.lean ====
section
/-! DEFINITION. One step of the block: it takes the next input (spec/20_memory.md R70, R71; 60_exceptions.md R270) and
is one atomic step of that source. With nothing offered the block does nothing (70_reset_and_hazards.md R291). -/

namespace Sys2Proof.Machine

/-- The controller offers the next control word (R21): the decoded instruction runs; an unassigned opcode is ignored
(R104); with no word left, or in the fault state (R266), nothing happens and the word stays unconsumed. -/
def stepWord (s : State) : Host.Outcome State Fault Refusal :=
  match s.fetchWord with
  | none => .next s
  | some w =>
    match decode (.word w) with
    | .ok i => exec i s
    | .error _ => s.control State.ignore

/-- A wire frame on the frame port: a row of the opcode table runs. A reserved encoding is no row and is not sent: the
block produces it only through DEV_WRITE (20_memory.md R69, R94; log entry 11). -/
def stepFrame (f : U24) (s : State) : Host.Outcome State Fault Refusal :=
  match decode (.frame f) with
  | .ok i => exec i s
  | .error _ => .next s

/-- One step. -/
def step (s : State) : Host.Outcome State Fault Refusal :=
  match s.inputs with
  | [] => .next s
  | .word :: rest => stepWord { s with inputs := rest }
  | .tick :: rest => State.tickInput { s with inputs := rest }
  | .reset :: rest => .next (State.applyReset { s with inputs := rest })
  | .frame f :: rest => stepFrame f { s with inputs := rest }

/-- `s` with the instruction whose bits are `w` as its very next input (log entry 6). -/
def State.withFetchWord (s : State) (nbits w : Nat) : State := s.offer nbits w

end Sys2Proof.Machine
end

