-- ==== Sys2Proof/Machine/Converter.lean ====
section
/-! DEFINITION. What is known of the converter, read off EVLOG. The converter is outside the block and out of scope
(spec/00_scope.md section 2), so this is no state: it is a view an observer derives from the frames and pulses sent,
by the informative "meaning at the converter" sentences of 30_encoding.md R84 to R92 and 70_reset_and_hazards.md R293,
R301, R303 (PRESUMED by the spec itself, from the DAC8562 family; log entry 16). `none` is "not known": so is
everything before the first frame (R292), everything after a reserved encoding (R94), and what a factory reset or a CLR
pulse leaves. A configuration frame whose data R85, R89, R91 or R92 does not describe, which only DEV_WRITE can send, has
no meaning given either: that the register it names is then not known, and no other, is the model's choice (DESIGN
CHOICE; log entry 16). No definition of the block reads the view. -/

namespace Sys2Proof.Machine

/-- What is known of the converter's registers. The data of an input or output register is the data field as sent. -/
structure ConverterView where
  inputA : Option U16
  inputB : Option U16
  outputA : Option U16
  outputB : Option U16
  /-- bit 0 channel A, bit 1 channel B; 0 is gain 2, 1 is gain 1 (R85) -/
  gain : Option (BitVec 2)
  /-- the power mode of each channel (R89) -/
  powerA : Option (BitVec 2)
  powerB : Option (BitVec 2)
  /-- bit 0 channel A, bit 1 channel B; 1 ignores the LDAC pulse (R91) -/
  ldac : Option (BitVec 2)
  /-- the internal reference (R92) -/
  reference : Option Bool
deriving DecidableEq, Repr

/-- Nothing is known (R292). -/
def unknownConverter : ConverterView := ⟨none, none, none, none, none, none, none, none, none⟩

/-- The addressed input registers take a code (R84). -/
def ConverterView.writeInput (v : ConverterView) (toA toB : Bool) (data : U16) : ConverterView :=
  { v with inputA := if toA then some data else v.inputA, inputB := if toB then some data else v.inputB }

/-- The outputs of these channels take their input registers (R86). -/
def ConverterView.update (v : ConverterView) (ofA ofB : Bool) : ConverterView :=
  { v with outputA := if ofA then v.inputA else v.outputA, outputB := if ofB then v.inputB else v.outputB }

/-- A 2-bit register's data whose other bits are 0 (R85, R91). Where another bit is 1 the spec gives the data no meaning,
and the register is not known (DESIGN CHOICE; log entry 16). -/
def twoBits (data : U16) : Option (BitVec 2) := if data &&& 0xFFFC = 0 then some (data.extractLsb' 0 2) else none

/-- A POWER frame (R89): bits 5:4 are the mode, bits 1:0 select channels B and A, all other bits are 0. Where another bit
is 1 the spec gives the data no meaning, and neither channel's mode is known (DESIGN CHOICE; log entry 16). -/
def ConverterView.power (v : ConverterView) (data : U16) : ConverterView :=
  if data &&& 0xFFCC = 0 then
    { v with
      powerA := if data.getLsbD 0 then some (data.extractLsb' 4 2) else v.powerA
      powerB := if data.getLsbD 1 then some (data.extractLsb' 4 2) else v.powerB }
  else { v with powerA := none, powerB := none }

/-- An INTREF frame (R92): 1 on, 0 off. Other data has no meaning given, and the reference is not known (DESIGN CHOICE;
log entry 16). -/
def referenceData (data : U16) : Option Bool := if data = 0 then some false else if data = 1 then some true else none

/-- A RESET frame (R90): 0 clears the input and output registers, 1 resets every register to values the spec does not
give. Other data has no meaning given, and nothing is known after it (DESIGN CHOICE; log entry 16). -/
def ConverterView.softwareReset (v : ConverterView) (data : U16) : ConverterView :=
  if data = 0 then { v with inputA := some 0, inputB := some 0, outputA := some 0, outputB := some 0 }
  else unknownConverter

/-- An LDAC pulse (R27, R303): a channel that responds takes its input register, one that ignores it keeps its output,
and where the mode is not known neither is the output. -/
def ConverterView.ldacPulse (v : ConverterView) : ConverterView :=
  match v.ldac with
  | none => { v with outputA := none, outputB := none }
  | some m => v.update (!m.getLsbD 0) (!m.getLsbD 1)

/-- The effect of a wire frame (R84 to R92). A control word is never a wire frame. GAIN, POWER, LDAC and INTREF data
that the rules do not describe leave the register they name unknown (DESIGN CHOICE; log entry 16). -/
def ConverterView.receive (v : ConverterView) : Instr → ConverterView
  | .frameWrInA d => v.writeInput true false d
  | .frameWrInB d => v.writeInput false true d
  | .frameWrInBoth d => v.writeInput true true d
  | .frameGain d => { v with gain := twoBits d }
  | .frameUpdA _ => v.update true false
  | .frameUpdB _ => v.update false true
  | .frameUpdBoth _ => v.update true true
  | .frameWrUpdAllA d => (v.writeInput true false d).update true true
  | .frameWrUpdAllB d => (v.writeInput false true d).update true true
  | .frameWrUpdAllBoth d => (v.writeInput true true d).update true true
  | .frameWrUpdA d => (v.writeInput true false d).update true false
  | .frameWrUpdB d => (v.writeInput false true d).update false true
  | .frameWrUpdBoth d => (v.writeInput true true d).update true true
  | .framePower d => v.power d
  | .frameReset d => v.softwareReset d
  | .frameLdac d => { v with ldac := twoBits d }
  | .frameIntref d => { v with reference := referenceData d }
  | _ => unknownConverter

/-- The effect of one event of EVLOG. -/
def ConverterView.observe (v : ConverterView) : Event → ConverterView
  | .frame b0 b1 b2 =>
    match decodeFrame (frameValue b0 b1 b2) with
    | .ok i => v.receive i
    | .error _ => unknownConverter
  | .pulse .ldac => v.ldacPulse
  | .pulse .clr => { v with inputA := none, inputB := none, outputA := none, outputB := none }

/-- What is known of the converter after these events, nothing being known before them. -/
def converterAfter (log : List Event) : ConverterView := log.foldl ConverterView.observe unknownConverter

end Sys2Proof.Machine
end

