-- ==== Sys2Proof/Safety.lean ====
section
/-! DEFINITION. The terms statements use: which states are in range (the value sets of spec/10_state.md section 2), the
form of the wavetable memory, what a step must leave alone, and the states an operation of the spec ends in, written
out field by field. -/

namespace Sys2Proof.Machine

/-- The wavetable address spaces, one per oscillator (R60). -/
abbrev Memory := List Wavetable

/-- The wavetables of a state. -/
def State.memory (s : State) : Memory := s.oscs.map Osc.table

/-- The form of the memory: every table has 1 to 65536 entries (R6). Each is a whole list of its entries, so equal
memories are equal data. -/
def Memory.wf (m : Memory) : Bool := m.all fun t => 1 ≤ t.length && t.length ≤ 65536

/-- An oscillator in range: R6, R35 to R37, R40. -/
abbrev Osc.Ok (o : Osc) : Prop :=
  (1 ≤ o.size ∧ o.size ≤ 65536) ∧ o.idx < o.size ∧
  (0 ≤ o.amp ∧ o.amp ≤ 1) ∧ (0 ≤ o.ph ∧ o.ph < o.size) ∧ (-1 ≤ o.dc ∧ o.dc ≤ 1)

/-- A state in range: the parameters (R3, R5, R7), `VREF` (R24) and every oscillator. The types hold the ranges of the
other elements. -/
abbrev State.Ok (s : State) : Prop :=
  s.cfg.Ok ∧ (0 ≤ s.vref ∧ s.vref ≤ 5) ∧ (1 ≤ s.oscs.length ∧ s.oscs.length ≤ 256) ∧ ∀ o ∈ s.oscs, o.Ok

/-- What no step may change: the parameters, the number of oscillators and their table sizes (R2 to R10, R45; `SIN` is
a constant). -/
def State.params (s : State) : Config × List Nat := (s.cfg, s.oscs.map Osc.size)

/-- The value `LAST_FRAME` must have after these events (R29): that of the last frame, 0 before any. -/
def lastFrameOf (log : List Event) : U24 :=
  log.foldl (fun v e => match e with
    | .frame b0 b1 b2 => frameValue b0 b1 b2
    | .pulse _ => v) 0

/-- R81: the reserved bits of an event's frame are 0. -/
def Event.reservedZero : Event → Bool
  | .frame b0 _ _ => b0 &&& 0xC0 == 0
  | .pulse _ => true

/-- What EVLOG and `LAST_FRAME` keep together (R29, R81). -/
def State.LogOk (s : State) : Prop :=
  s.lastFrame = lastFrameOf s.evlog ∧ ∀ e ∈ s.evlog, e.reservedZero = true

/-- R34: every frequency is the value of a finite binary32 word. -/
def State.FreqsFinite (s : State) : Prop := ∀ o ∈ s.oscs, ∃ w, f32 w = some o.freq

/-- The converter's codes are the spec's defaults (R9). -/
def State.DefaultCodes (s : State) : Prop := s.cfg.cmd = CmdCode.dac8562

/-- The identities of both slots are the spec's defaults (R4). -/
def State.DefaultIds (s : State) : Prop := s.cfg.chanIdA = 0 ∧ s.cfg.chanIdB = 1

/-- `s` after the frame `b0 b1 b2` has been sent and the exchange completed: a draw is used up, the frame is in EVLOG
and in `LAST_FRAME` (R64, R180). -/
def State.sent (s : State) (b0 b1 b2 : Byte) : State :=
  { s with
    bus := s.bus.tail
    busDrawn := s.busDrawn + 1
    evlog := s.evlog ++ [.frame b0 b1 b2]
    lastFrame := b0 ++ b1 ++ b2 }

/-- `s` after an exchange that did not complete (R263): a draw is used up and `FAULT` is `F_BUS`. -/
def State.busFailed (s : State) : State :=
  { s with bus := s.bus.tail, busDrawn := s.busDrawn + 1, fault := .bus }

/-- `s` after a control word's response (R21, R112). -/
def State.answered (s : State) (status : Status) (value : RespValue) : State :=
  { s with resp := some ⟨status, value⟩, pc := s.pc + 1 }

/-- `s` after a frame and the response that returns it (R112). -/
def State.sentAnswered (s : State) (b0 b1 b2 : Byte) : State :=
  (s.sent b0 b1 b2).answered .ok (.u24 (b0 ++ b1 ++ b2))

/-- The next frame's exchange completes, and the one after it, for `n` frames. -/
def State.busOkFor : Nat → State → Prop
  | 0, _ => True
  | n + 1, s => s.busOk = true ∧ State.busOkFor n s.afterDraw

/-- A slot that a SEL names and whose identity is valid (R150, R151). -/
def State.Selects (s : State) (sel : Byte) (slot : Slot) : Prop :=
  slotOf sel = some slot ∧ validId (s.chanId slot) = true

/-- An oscillator that a SEL names (R219). -/
def State.SelectsOsc (s : State) (sel : Byte) (o : Osc) : Prop := s.oscs[sel.toNat]? = some o

/-- The control words of 41_channel.md. -/
def channelSelOf : Instr → Option Byte
  | .chSetout sel _ _ => some sel
  | .chSetv sel _ _ => some sel
  | .chGain sel _ => some sel
  | .chUpdate sel => some sel
  | .chEn sel => some sel
  | .chDis sel => some sel
  | .chD2v sel _ => some sel
  | .chV2d sel _ => some sel
  | _ => none

/-- The oscillator words of 43_oscillator.md (R219). -/
def oscSelOf : Instr → Option Byte
  | .oscEn sel => some sel
  | .oscDis sel => some sel
  | .oscFreq sel _ => some sel
  | .oscAmp sel _ => some sel
  | .oscPhase sel _ => some sel
  | .oscDc sel _ => some sel
  | .oscKind sel _ => some sel
  | .oscTwr sel _ _ => some sel
  | .oscTrd sel _ => some sel
  | .oscBind sel _ => some sel
  | .oscVmode sel _ => some sel
  | .oscIdx sel => some sel
  | _ => none

/-! ### Which operations write which element (10_state.md section 2, column "written by") -/

/-- The elements S1 to S29 but for the wavetable entries, each on its own; the oscillator ones by number. -/
inductive Element where
  | frRaw0 | frRaw1 | frRaw2 | frOff
  | vref | intrefEn | pdMode | ldacMode | syncAtt | clrAtt | lastFrame | fault
  | gain (slot : Slot)
  | en (slot : Slot)
  | freq (o : Nat) | amp (o : Nat) | ph (o : Nat) | dc (o : Nat) | kind (o : Nat) | run (o : Nat) | idx (o : Nat)
  | bind (o : Nat) | vmode (o : Nat) | table (o : Nat)
  | evlog | pc | resp
deriving DecidableEq, Repr

/-- Both states hold the same in an element. -/
def Element.Same (s t : State) : Element → Prop
  | .frRaw0 => t.fr.raw0 = s.fr.raw0
  | .frRaw1 => t.fr.raw1 = s.fr.raw1
  | .frRaw2 => t.fr.raw2 = s.fr.raw2
  | .frOff => t.fr.off = s.fr.off
  | .vref => t.vref = s.vref
  | .intrefEn => t.intrefEn = s.intrefEn
  | .pdMode => t.pdMode = s.pdMode
  | .ldacMode => t.ldacMode = s.ldacMode
  | .syncAtt => t.syncAtt = s.syncAtt
  | .clrAtt => t.clrAtt = s.clrAtt
  | .lastFrame => t.lastFrame = s.lastFrame
  | .fault => t.fault = s.fault
  | .gain slot => (t.channel slot).gain = (s.channel slot).gain
  | .en slot => (t.channel slot).en = (s.channel slot).en
  | .freq o => t.oscs[o]?.map Osc.freq = s.oscs[o]?.map Osc.freq
  | .amp o => t.oscs[o]?.map Osc.amp = s.oscs[o]?.map Osc.amp
  | .ph o => t.oscs[o]?.map Osc.ph = s.oscs[o]?.map Osc.ph
  | .dc o => t.oscs[o]?.map Osc.dc = s.oscs[o]?.map Osc.dc
  | .kind o => t.oscs[o]?.map Osc.kind = s.oscs[o]?.map Osc.kind
  | .run o => t.oscs[o]?.map Osc.run = s.oscs[o]?.map Osc.run
  | .idx o => t.oscs[o]?.map Osc.idx = s.oscs[o]?.map Osc.idx
  | .bind o => t.oscs[o]?.map Osc.bind = s.oscs[o]?.map Osc.bind
  | .vmode o => t.oscs[o]?.map Osc.vmode = s.oscs[o]?.map Osc.vmode
  | .table o => t.oscs[o]?.map Osc.table = s.oscs[o]?.map Osc.table
  | .evlog => t.evlog = s.evlog
  | .pc => t.pc = s.pc
  | .resp => t.resp = s.resp

/-- A wire frame of the opcode table, not a control word. -/
def isWireFrame (i : Instr) : Bool :=
  match encode i with
  | .word _ => false
  | .frame _ => true

/-- The operations that send a frame (R263), and the wire frames. -/
def maySend (i : Instr) : Bool :=
  match i with
  | .chSetout _ _ _ => true
  | .chSetv _ _ _ => true
  | .chGain _ _ => true
  | .chUpdate _ => true
  | .chEn _ => true
  | .chDis _ => true
  | .devInit => true
  | .devDefault => true
  | .devIntref _ => true
  | .devSyncmode _ => true
  | .devRstInput => true
  | .devRstFactory => true
  | .devWrite _ _ _ _ => true
  | .tick => true
  | _ => isWireFrame i

/-- The operations that can raise a fault: those that send a frame, and those with a real operand (R261 to R263). -/
def mayFault (i : Instr) : Bool :=
  match i with
  | .chV2d _ _ => true
  | .devVref _ => true
  | .oscFreq _ _ => true
  | .oscAmp _ _ => true
  | .oscPhase _ _ => true
  | .oscDc _ _ => true
  | _ => maySend i

/-- DEV_INIT and DEV_DEFAULT. -/
def isDefaultSequence (i : Instr) : Bool := i == .devInit || i == .devDefault

/-- The column "written by" of the state table, with R151, R184 and R239 (which clear `en`), R266 (`FAULT`), and the
wire frames, which send. -/
def mayWrite (i : Instr) : Element → Bool
  | .frRaw0 => match i with
    | .frClear => true
    | .frLoad _ => true
    | .packAddr _ => true
    | .packCmd _ => true
    | _ => false
  | .frRaw1 => match i with
    | .frClear => true
    | .frLoad _ => true
    | .packData _ => true
    | _ => false
  | .frRaw2 => match i with
    | .frClear => true
    | .frLoad _ => true
    | .packData _ => true
    | _ => false
  | .frOff => match i with
    | .frSetoff _ => true
    | _ => false
  | .vref => match i with
    | .devVref _ => true
    | _ => false
  | .intrefEn => match i with
    | .devIntref _ => true
    | _ => isDefaultSequence i
  | .pdMode => match i with
    | .devPdmode _ => true
    | _ => isDefaultSequence i
  | .ldacMode => match i with
    | .devSyncmode _ => true
    | _ => isDefaultSequence i
  | .syncAtt => i == .devAttSync || i == .devDetSync
  | .clrAtt => i == .devAttClr || i == .devDetClr
  | .lastFrame => maySend i
  | .fault => mayFault i
  | .gain slot => match i with
    | .chGain sel _ => slotOf sel == some slot
    | .devIntref _ => true
    | _ => isDefaultSequence i
  | .en slot => (channelSelOf i).bind slotOf == some slot || match i with
    | .devIntref _ => true
    | .tick => true
    | _ => isDefaultSequence i
  | .freq o => match i with
    | .oscFreq sel _ => sel.toNat == o
    | _ => false
  | .amp o => match i with
    | .oscAmp sel _ => sel.toNat == o
    | _ => false
  | .ph o => match i with
    | .oscPhase sel _ => sel.toNat == o
    | _ => false
  | .dc o => match i with
    | .oscDc sel _ => sel.toNat == o
    | _ => false
  | .kind o => match i with
    | .oscKind sel _ => sel.toNat == o
    | _ => false
  | .run o => match i with
    | .oscEn sel => sel.toNat == o
    | .oscDis sel => sel.toNat == o
    | _ => false
  | .idx _ => i == .tick
  | .bind o => match i with
    | .oscBind sel _ => sel.toNat == o
    | _ => false
  | .vmode o => match i with
    | .oscVmode sel _ => sel.toNat == o
    | _ => false
  | .table o => match i with
    | .oscAmp sel _ => sel.toNat == o
    | .oscDc sel _ => sel.toNat == o
    | .oscKind sel _ => sel.toNat == o
    | .oscTwr sel _ _ => sel.toNat == o
    | _ => false
  | .evlog => maySend i || i == .devLdacPulse || i == .devClrPulse
  | .pc => !isWireFrame i
  | .resp => !isWireFrame i

/-- Entry `j` of oscillator `o`'s wavetable, read as the block reads it (R60). -/
def State.entry (s : State) (o j : Nat) : Option U16 := s.oscs[o]?.bind fun osc => memRead osc.table j

/-- The bits of a control word that its opcode's form uses (R101, R103); all the other bits are ignored. -/
def usedBits (op : Nat) : ControlWord :=
  0xFF00000000000000
  ||| (if (0x10 ≤ op ∧ op ≤ 0x17) ∨ (0x30 ≤ op ∧ op ≤ 0x3B) then 0x00FF000000000000 else 0)
  ||| (if op ∈ [0x03, 0x04, 0x10, 0x12, 0x16, 0x23, 0x28, 0x2A, 0x2E, 0x36, 0x37, 0x39, 0x3A] then 0x0000FFFF00000000
       else if op = 0x11 then 0x0000000100000000 else 0)
  ||| (if op ∈ [0x05, 0x06, 0x11, 0x17, 0x22, 0x32, 0x33, 0x34, 0x35, 0x37, 0x38] then 0x00000000FFFFFFFF
       else if op = 0x10 then 0x0000000000000001
       else if op = 0x02 then 0x0000000000FFFFFF
       else if op = 0x2E then 0x000000000001FFFF else 0)

/-- An OP value that R104 lists as unassigned. -/
def unassigned (op : Nat) : Prop :=
  op = 0x00 ∨ (0x0B ≤ op ∧ op ≤ 0x0F) ∨ (0x18 ≤ op ∧ op ≤ 0x1F) ∨ (0x3C ≤ op ∧ op ≤ 0x3F) ∨ 0x41 ≤ op

/-- A value matches a row of the opcode table. -/
def rowFits (r : Row) (w : Nat) : Prop := w &&& r.mask = r.pattern

/-! ### Frames and tables as the rules write them -/

/-- The data field of a data write (R66, R83): the code shifted by `BIT_OFFSET`. -/
def State.dataOf (s : State) (code : U16) : U16 := code <<< s.cfg.bitOffset.val

/-- High byte of a data field (R63). -/
def hiByte (d : U16) : Byte := d.extractLsb' 8 8

/-- Low byte of a data field (R63). -/
def loByte (d : U16) : Byte := d.extractLsb' 0 8

/-- The code of a voltage (R160), for a denominator that is not 0. -/
def State.codeOf (s : State) (slot : Slot) (volts : Rat) : U16 :=
  BitVec.ofNat 16
    (min (roundHa (|volts| * s.cfg.fullScale / (s.vref * (s.channel slot).gain.factor))) s.cfg.fullScale).toNat

/-- The gain factor of R161 for the number of a gain mode. -/
def factorOf (mode : U16) (id : Byte) : Gain :=
  if mode = 0 then .two
  else if mode = 1 then (if id = 0 then .one else .two)
  else if mode = 2 then (if id = 0 then .two else .one)
  else .one

/-- The table of R226 for a kind: the samples of `SIN` for SINE, the ramp for SAW, unchanged for ARB. -/
def Osc.tableFor (fullScale : Nat) (o : Osc) (kind : Kind) (amp dc : Rat) : Wavetable :=
  match kind with
  | .arb => o.table
  | .sine => (List.range o.size).map fun i => BitVec.ofNat 16 (clampInt
      (roundHa ((fullScale : Rat) / 2 + dc * (fullScale / 2) + amp * (fullScale / 2) * Config.sin i o.size)) 0 fullScale).toNat
  | .saw => (List.range o.size).map fun (i : Nat) => BitVec.ofNat 16 (clampInt
      (roundHa ((fullScale : Rat) / 2 + dc * (fullScale / 2) + amp * (fullScale / 2) * (2 * (i : Rat) / o.size - 1))) 0
        fullScale).toNat

/-- The code that is sent for a sample (R242): in voltage mode the sample divided by the gain. -/
def State.forwarded (s : State) (o : Osc) (code : U16) : U16 :=
  if o.vmode then
    BitVec.ofNat 16 (min (roundHa ((code.toNat : Rat) / (s.channel o.bind).gain.factor)) s.cfg.fullScale).toNat
  else code

/-- The frame an oscillator's part of a tick sends, if any (R239, R242), under the default codes. -/
def State.tickFrame (s : State) (o : Osc) : Option Event :=
  if o.run && validId (s.chanId o.bind) then
    o.sample.map fun code =>
      let d := s.dataOf (s.forwarded o code)
      .frame (0x18 ||| s.chanId o.bind) (hiByte d) (loByte d)
  else none

/-- The frames these oscillators' parts of a tick send, in order. -/
def State.framesOf (s : State) (l : List Osc) : List Event := l.filterMap s.tickFrame

/-- The frames of a tick, in order. -/
def State.tickFrames (s : State) : List Event := s.framesOf s.oscs

/-- An oscillator after its part of a tick (R239, R241). -/
def Osc.ticked (sps : Nat) (o : Osc) : Osc :=
  if o.run then { o with idx := ((o.idx + ⌊o.freq * o.size / sps⌋) % (o.size : Int)).toNat } else o

/-- A Running oscillator among these is bound to this slot, whose identity is invalid (R242). -/
def State.clearedBy (s : State) (l : List Osc) (slot : Slot) : Bool :=
  l.any (fun o => o.run && o.bind == slot) && !validId (s.chanId slot)

/-- The state after the parts of a tick of the oscillators `done`, no fault having been raised (R239); the oscillators
`rest` stand after them. -/
def State.served (s : State) (done rest : List Osc) : State :=
  { s with
    oscs := done.map (Osc.ticked s.cfg.sps) ++ rest
    chA := { s.chA with en := s.chA.en && !s.clearedBy done .a }
    chB := { s.chB with en := s.chB.en && !s.clearedBy done .b }
    evlog := s.evlog ++ s.framesOf done
    lastFrame := if s.framesOf done = [] then s.lastFrame else lastFrameOf (s.framesOf done)
    bus := s.bus.drop (s.framesOf done).length
    busDrawn := s.busDrawn + (s.framesOf done).length }

/-- The state after a tick in which no fault is raised (R239), before its response. -/
def State.afterTick (s : State) : State := s.served s.oscs []

/-- The frames of the gain part of DEV_INTREF and of the default sequence (R184): one per slot of valid identity. -/
def State.perSlot (s : State) (frameOf : Byte → Event) : List Event :=
  (if validId s.cfg.chanIdA then [frameOf s.cfg.chanIdA] else []) ++
  (if validId s.cfg.chanIdB then [frameOf s.cfg.chanIdB] else [])

/-- A POWER frame of a slot's identity (R89), under the default codes. -/
def powerFrame (pd : BitVec 2) (id : Byte) : Event :=
  .frame 0x20 0x00 ((pd.setWidth 8 <<< 4) ||| (1#8 <<< id.toNat))

/-- A slot's cache after the gain part of DEV_INTREF (R184): the gain if its identity is valid, else `en` cleared. -/
def Channel.afterIntref (c : Channel) (id : Byte) (e : Bool) : Channel :=
  if validId id then { c with gain := if e then .two else .one } else { c with en := false }

/-- `s` after these frames, all exchanges completed. -/
def State.sentAll (s : State) (frames : List Event) : State :=
  { s with
    evlog := s.evlog ++ frames
    lastFrame := if frames = [] then s.lastFrame else lastFrameOf frames
    bus := s.bus.drop frames.length
    busDrawn := s.busDrawn + frames.length }

end Sys2Proof.Machine
end

