-- ==== Sys2Proof/WellFormed.lean ====
section
/-! DEFINITION. Which instructions the assembler syntax of 30_encoding.md R116 can write: a slot is A or B, a gain
mode, a kind and a bound slot are one of the names of R107, and a frame has the data bits its rule leaves free (R86,
R85, R89 to R92: "all other bits 0"). Words outside these checks decode and execute all the same (R105, R106: they
are ignored or saturated); no statement about a meaning assumes well-formedness. -/

namespace Sys2Proof

/-- A SEL that names a channel slot (R105). -/
def slotNamed (sel : Byte) : Bool := sel.toNat ≤ 1

/-- One check per operand that R116 writes by name, or whose rule fixes some data bits. -/
def Instr.wellFormed : Instr → Bool
  | .chSetout sel _ _ => slotNamed sel
  | .chSetv sel _ _ => slotNamed sel
  | .chGain sel mode => slotNamed sel && mode.toNat ≤ 3
  | .chUpdate sel => slotNamed sel
  | .chEn sel => slotNamed sel
  | .chDis sel => slotNamed sel
  | .chD2v sel _ => slotNamed sel
  | .chV2d sel _ => slotNamed sel
  | .oscKind _ kind => kind.toNat ≤ 2
  | .oscBind _ slot => slot.toNat ≤ 1
  | .frameGain data => data.toNat ≤ 3
  | .frameUpdA data => data == 0
  | .frameUpdB data => data == 0
  | .frameUpdBoth data => data == 0
  | .framePower data => data &&& 0xFFCC == 0
  | .frameReset data => data.toNat ≤ 1
  | .frameLdac data => data.toNat ≤ 3
  | .frameIntref data => data.toNat ≤ 1
  | .frClear => true
  | .frLoad _ => true
  | .frSetoff _ => true
  | .packData _ => true
  | .packAddr _ => true
  | .packCmd _ => true
  | .unpackData => true
  | .unpackAddr => true
  | .unpackCmd => true
  | .frRead => true
  | .devInit => true
  | .devDefault => true
  | .devVref _ => true
  | .devIntref _ => true
  | .devAttSync => true
  | .devDetSync => true
  | .devAttClr => true
  | .devDetClr => true
  | .devSyncmode _ => true
  | .devLdacPulse => true
  | .devPdmode _ => true
  | .devRstInput => true
  | .devRstFactory => true
  | .devClrPulse => true
  | .devWrite _ _ _ _ => true
  | .devLast => true
  | .oscEn _ => true
  | .oscDis _ => true
  | .oscFreq _ _ => true
  | .oscAmp _ _ => true
  | .oscPhase _ _ => true
  | .oscDc _ _ => true
  | .oscTwr _ _ _ => true
  | .oscTrd _ _ => true
  | .oscVmode _ _ => true
  | .oscIdx _ => true
  | .tick => true
  | .frameWrInA _ => true
  | .frameWrInB _ => true
  | .frameWrInBoth _ => true
  | .frameWrUpdAllA _ => true
  | .frameWrUpdAllB _ => true
  | .frameWrUpdAllBoth _ => true
  | .frameWrUpdA _ => true
  | .frameWrUpdB _ => true
  | .frameWrUpdBoth _ => true

end Sys2Proof
end

