-- ==== Sys2Proof/Certificates/Slice0/Obligations.lean ====
section
/-! DEFINITION. The statements for the provers. Each docstring names the rules of spec/ it formalises. Where a frame is
sent, the fields `bus` and `busDrawn` that hold the draws of R11 are the model's own (log entry 5). Where a step
produces no response, that `resp` keeps its value is the model's reading (log entry 9); the statements that say so name
the entry. -/

open Sys2Proof Sys2Proof.Machine

/-! ### Encoding (30_encoding.md) -/

/-- R100 to R103, R80, R84 to R92: what the encoder writes, the decoder reads back, for every instruction and every
value of its operands. -/
def Obligations.DecodeInvertsEncode : Prop := ∀ i : Instr, decode (encode i) = .ok i

/-- R102, R100: words written out in the spec's test vectors stand for the instructions the spec says. -/
def Obligations.WordsOfTheSpecDecode : Prop :=
  decodeTableWord 64 0x0200000000C00000 = some (.frLoad 0xC00000) ∧
  decodeTableWord 64 0x110000013FA00000 = some (.chSetv 0 true 0x3FA00000) ∧
  decodeTableWord 64 0x1001100000000001 = some (.chSetout 1 0x1000 true) ∧
  decodeTableWord 64 0x2E00123400010301 = some (.devWrite 0x1234 1 3 true) ∧
  decodeTableWord 64 0x3701012C00000003 = some (.oscTwr 1 300 3) ∧
  decodeTableWord 64 0x4000000000000000 = some .tick ∧
  decodeTableWord 24 0x188000 = some (.frameWrUpdA 0x8000) ∧
  decodeTableWord 24 0x200011 = some (.framePower 0x0011)

/-- R103: the bits of a control word that its opcode's form does not use are ignored. The two v16 operands of which a
rule uses bit 0 alone (R184, R236) run the same whatever their other bits. -/
def Obligations.UnusedBitsAreIgnored : Prop :=
  (∀ w : ControlWord, ¬ unassigned (opField w).toNat →
    decode (.word w) = decode (.word (w &&& usedBits (opField w).toNat))) ∧
  (∀ (v : U16) (s : State), exec (.devIntref v) s = exec (.devIntref (v &&& 1)) s) ∧
  (∀ (sel : Byte) (v : U16) (s : State), exec (.oscVmode sel v) s = exec (.oscVmode sel (v &&& 1)) s)

/-- R104: an unassigned opcode changes nothing but `pc` and `resp`, sends nothing and responds (IGN, none). -/
def Obligations.UnassignedOpcodeIsIgnored : Prop :=
  ∀ (s : State) (rest : List Input) (w : ControlWord), s.inputs = .word :: rest → s.fault = .none →
    s.stream[s.pc]? = some w → unassigned (opField w).toNat →
    step s = .next { s with inputs := rest, pc := s.pc + 1, resp := some ⟨.ign, .none⟩ }

/-- R94 (last sentence of the row list) and R84 to R92: exactly the reserved frames have no row of the opcode table. -/
def Obligations.ReservedFramesHaveNoRow : Prop :=
  ∀ f : U24, (∃ e, decode (.frame f) = .error e) ↔
    ((cmdField f).toNat ≤ 3 ∧ 3 ≤ (addrField f).toNat ∧ (addrField f).toNat ≤ 6) ∨
    (1 ≤ (cmdField f).toNat ∧ (cmdField f).toNat ≤ 3 ∧ (addrField f).toNat = 2)

/-- R102, R84 to R92: no bits fit two rows of the opcode table of one format. -/
def Obligations.OpcodeRowsDoNotOverlap : Prop :=
  opcodeRows.Pairwise fun a b => a.bits = b.bits → ∀ w : Nat, ¬ (rowFits a w ∧ rowFits b w)

/-! ### Steps (20_memory.md section 4, 60_exceptions.md) -/

/-- R21, R70, R102: when the next input is a control word and word `pc` of the stream decodes, one step is that
instruction's meaning, the input being used up; and so for a wire frame on the frame port (the model's own input, log
entry 10). -/
def Obligations.StepRunsTheDecodedInstruction : Prop :=
  (∀ (s : State) (rest : List Input) (w : ControlWord) (i : Instr), s.inputs = .word :: rest →
    s.stream[s.pc]? = some w → decode (.word w) = .ok i → step s = exec i { s with inputs := rest }) ∧
  (∀ (s : State) (rest : List Input) (f : U24) (i : Instr), s.inputs = .frame f :: rest →
    decode (.frame f) = .ok i → step s = exec i { s with inputs := rest })

/-- The model's own placing of a word (log entry 6): a control word offered with `withFetchWord` is what the very next
step runs, in any state, and no other word of the stream changes. -/
def Obligations.OfferedWordIsTheNextToRun : Prop :=
  ∀ (s : State) (w : Nat) (i : Instr), decode (.word (BitVec.ofNat 64 w)) = .ok i →
    ∃ stream : List ControlWord, step (s.withFetchWord 64 w) = exec i { s with stream := stream } ∧
      stream[s.pc]? = some (BitVec.ofNat 64 w) ∧
      ∀ n x, n ≠ s.pc → s.stream[n]? = some x → stream[n]? = some x

/-- R268: in the fault state nothing executes, so the state stays as it is, whatever control word, tick or frame comes;
reset is the only way out and clears `FAULT`. A frame on the frame port is the model's own input (log entry 10). -/
def Obligations.OnlyResetLeavesTheFaultState : Prop :=
  ∀ (s : State), s.fault ≠ .none →
    (∀ i, exec i s = .next s) ∧
    (∀ rest x, s.inputs = x :: rest → x ≠ .reset → step s = .next { s with inputs := rest }) ∧
    (∀ rest, s.inputs = .reset :: rest → ∃ t, step s = .next t ∧ t.fault = .none ∧
      t.evlog = [] ∧ t.pc = 0 ∧ t.resp = none)

/-- R21 (its sentence on the tick input) and R239: a tick on the tick input leaves `pc`, the response and the control
stream as they are.
That `resp` stays where no response is produced is the model's reading (log entry 9). -/
def Obligations.TickInputKeepsPcAndResponse : Prop :=
  ∀ (s t : State) (rest : List Input), s.inputs = .tick :: rest → step s = .next t →
    t.pc = s.pc ∧ t.resp = s.resp ∧ t.stream = s.stream

/-- R290: reset, in any state, gives every element of S1 to S29 its reset value (10_state.md section 2), regenerates
every table from the reset kind, amplitude and offset, empties EVLOG and sends nothing. That the control stream stays is
the model's reading (log entry 7), and so is that the parameters, which it holds in the state, stay (log entry 1). -/
def Obligations.ResetGivesEveryElementItsResetValue : Prop :=
  ∀ (s : State) (rest : List Input), s.inputs = .reset :: rest →
    ∃ t, step s = .next t ∧
      t.fr = ⟨0, 0, 0, s.cfg.bitOffset⟩ ∧ t.vref = s.cfg.vrefReset ∧ t.intrefEn = false ∧ t.pdMode = 1 ∧
      t.ldacMode = 0 ∧ t.syncAtt = false ∧ t.clrAtt = false ∧ t.lastFrame = 0 ∧ t.fault = .none ∧
      t.chA = ⟨.one, false⟩ ∧ t.chB = ⟨.one, false⟩ ∧ t.evlog = [] ∧ t.pc = 0 ∧ t.resp = none ∧
      t.stream = s.stream ∧ t.cfg = s.cfg ∧ t.oscs.length = s.oscs.length ∧
      ∀ o osc, s.oscs[o]? = some osc →
        t.oscs[o]? = some
          { (osc : Osc) with
            freq := 0
            amp := 1
            ph := 0
            dc := 0
            kind := if o % 2 = 0 then .sine else .saw
            run := false
            idx := 0
            bind := if o % 2 = 0 then .a else .b
            vmode := false
            table := osc.tableFor s.cfg.fullScale (if o % 2 = 0 then .sine else .saw) 1 0 }

/-- R290, R43, R2 to R6, R9, R10 and the reset column of 10_state.md section 2: the state after reset, with the default
parameters, and every table of its open size regenerated. That the defaulted parameters are the defaults is log entry 4. -/
def Obligations.ResetStateHoldsTheSpecsValues : Prop :=
  State.reset.fr = ⟨0, 0, 0, 2⟩ ∧ State.reset.vref = 5 / 2 ∧ State.reset.intrefEn = false ∧
  State.reset.pdMode = 1 ∧ State.reset.ldacMode = 0 ∧ State.reset.syncAtt = false ∧ State.reset.clrAtt = false ∧
  State.reset.lastFrame = 0 ∧ State.reset.fault = .none ∧ State.reset.chA = ⟨.one, false⟩ ∧
  State.reset.chB = ⟨.one, false⟩ ∧ State.reset.evlog = [] ∧ State.reset.pc = 0 ∧ State.reset.resp = none ∧
  State.reset.cfg.bitOffset = 2 ∧ State.reset.cfg.vrefReset = 5 / 2 ∧ State.reset.cfg.fullScale = 16383 ∧ State.reset.cfg.chanIdA = 0 ∧ State.reset.cfg.chanIdB = 1 ∧
  State.reset.DefaultCodes ∧ State.reset.oscs.map Osc.kind = [.sine, .saw] ∧
  State.reset.oscs.map Osc.bind = [.a, .b] ∧ State.reset.oscs.map Osc.run = [false, false] ∧
  (∀ osc ∈ State.reset.oscs, osc.freq = 0 ∧ osc.amp = 1 ∧ osc.ph = 0 ∧ osc.dc = 0 ∧ osc.idx = 0 ∧ osc.vmode = false) ∧
  ∀ o osc, State.reset.oscs[o]? = some osc → osc.size = Config.tableSize o ∧
    osc.table = (osc : Osc).tableFor 16383 (if o % 2 = 0 then .sine else .saw) 1 0

/-! ### Invariants and whole-machine rules -/

/-- The state after reset is in range, its memory has its form, and EVLOG and `LAST_FRAME` agree. -/
def Obligations.ResetStateIsInRange : Prop :=
  State.reset.Ok ∧ State.reset.LogOk ∧ State.reset.FreqsFinite ∧ Memory.wf State.reset.memory = true

/-- The value sets of 10_state.md section 2 (R24, R35 to R37, R40) and the table sizes (R6): every step from a state in
range ends in a state in range, and never stops. -/
def Obligations.StepKeepsTheStateInRange : Prop :=
  ∀ s : State, s.Ok → ∃ t, step s = .next t ∧ t.Ok

/-- R29, R81: `LAST_FRAME` is the last frame of EVLOG (0 before any), and every frame has its reserved bits 0; every
step keeps both. -/
def Obligations.StepKeepsLastFrameAndReservedBits : Prop :=
  ∀ s t : State, s.LogOk → step s = .next t → t.LogOk

/-- R34: every frequency is the exact value of a finite binary32 word, and every step keeps it so. -/
def Obligations.StepKeepsFrequenciesBinary32 : Prop :=
  ∀ s t : State, s.FreqsFinite → step s = .next t → t.FreqsFinite

/-- R45, R4, R6: no step changes a parameter: not the configuration, not a table size, not the number of oscillators
(`SIN` is a constant). -/
def Obligations.StepKeepsTheParameters : Prop :=
  ∀ s t : State, step s = .next t → t.params = s.params

/-- R44, R77: EVLOG only grows, at its end, except at reset. -/
def Obligations.EventLogOnlyGrows : Prop :=
  ∀ s t : State, step s = .next t → s.inputs.head? ≠ some .reset → ∃ l, t.evlog = s.evlog ++ l

/-- R21, R112, R266: a control word that executes responds and advances `pc` by exactly one; a word that faults does
neither. That `resp` stays where no response is produced is the model's reading (log entry 9). The third clause is the
model's own: the spec gives a wire frame no execution, and the model lets it leave `pc` and `resp` (log entry 10). -/
def Obligations.ControlWordsAdvancePcUnlessTheyFault : Prop :=
  ∀ (i : Instr) (s t : State), s.fault = .none → exec i s = .next t →
    (isWireFrame i = false → t.fault = .none → t.pc = s.pc + 1 ∧ t.resp.isSome) ∧
    (isWireFrame i = false → t.fault ≠ .none → t.pc = s.pc ∧ t.resp = s.resp) ∧
    (isWireFrame i = true → t.pc = s.pc ∧ t.resp = s.resp)

/-- 10_state.md section 2, column "written by" (with R151, R184, R239 and R266 for the flags and `FAULT`): an
instruction that is not named for an element leaves it as it is, and no instruction touches the parameters (the
configuration, the number of oscillators, the table sizes) or the control stream. What a wire frame may write (EVLOG,
`LAST_FRAME`, `FAULT`) and leaves (`pc`, `resp` and the rest) is the model's choice (log entry 10). -/
def Obligations.OnlyTheNamedWritersWriteAnElement : Prop :=
  ∀ (i : Instr) (s t : State), exec i s = .next t →
    (∀ e : Element, mayWrite i e = false → e.Same s t) ∧ t.params = s.params ∧ t.stream = s.stream ∧
      t.inputs = s.inputs

/-- R60, R61, R229, R233: the only entries an instruction changes are those of the oscillator it selects, and OSC_TWR
changes one; TICK and every other instruction change none. -/
def Obligations.WavetableFrame : Prop :=
  (∀ (i : Instr) (s t : State) (o j : Nat), exec i s = .next t → mayWrite i (.table o) = false →
    t.entry o j = s.entry o j) ∧
  (∀ (sel : Byte) (code : U16) (index : U32) (s t : State) (o j : Nat), exec (.oscTwr sel code index) s = .next t →
    (o, j) ≠ (sel.toNat, index.toNat) → t.entry o j = s.entry o j)

/-- R105: a SEL that names no slot or no oscillator makes the word ignored: no state but `pc` and `resp` changes. -/
def Obligations.BadSelectorIsIgnored : Prop :=
  (∀ (i : Instr) (sel : Byte) (s : State), s.fault = .none → channelSelOf i = some sel → 2 ≤ sel.toNat →
    exec i s = .next (s.answered .ign .none)) ∧
  (∀ (i : Instr) (sel : Byte) (s : State), s.fault = .none → oscSelOf i = some sel → s.oscs.length ≤ sel.toNat →
    exec i s = .next (s.answered .ign .none))

/-- R187: a control line that is not attached is never pulsed. -/
def Obligations.AbsentLinesAreNeverPulsed : Prop :=
  ∀ (i : Instr) (s t : State) (l : List Event), exec i s = .next t → t.evlog = s.evlog ++ l →
    (Event.pulse .ldac ∈ l → s.syncAtt = true) ∧ (Event.pulse .clr ∈ l → s.clrAtt = true)

/-! ### The codec (40_codec.md) -/

/-- R140: the laws of the codec's functions. -/
def Obligations.CodecLaws : Prop :=
  (∀ (f : Frame) (v : U16), unpackDataField (packData f v) = v <<< f.off.val) ∧
  (∀ (f : Frame) (a : Nat), (unpackAddress (packAddress f a)).toNat = min a 7) ∧
  (∀ (f : Frame) (c : Nat), (unpackCommand (packCommand f c)).toNat = min c 7) ∧
  (∀ (f : Frame) (a : Nat), unpackCommand (packAddress f a) = unpackCommand f ∧
    (packAddress f a).raw0.extractLsb' 6 2 = f.raw0.extractLsb' 6 2 ∧
    (packAddress f a).raw1 = f.raw1 ∧ (packAddress f a).raw2 = f.raw2) ∧
  (∀ (f : Frame) (c : Nat), unpackAddress (packCommand f c) = unpackAddress f ∧
    (packCommand f c).raw0.extractLsb' 6 2 = f.raw0.extractLsb' 6 2 ∧
    (packCommand f c).raw1 = f.raw1 ∧ (packCommand f c).raw2 = f.raw2) ∧
  (∀ (f : Frame) (v : U16), (packData f v).raw0 = f.raw0)

/-- R130 to R135: the writing codec words, each with its whole next state. -/
def Obligations.CodecWritersResult : Prop :=
  ∀ s : State, s.fault = .none →
    exec .frClear s = .next ({ s with fr := ⟨0, 0, 0, s.fr.off⟩ }.answered .ok .none) ∧
    (∀ f : U24, exec (.frLoad f) s = .next
      ({ s with fr := ⟨f.extractLsb' 16 8, f.extractLsb' 8 8, f.extractLsb' 0 8, s.fr.off⟩ }.answered .ok .none)) ∧
    (∀ n : U16, ∃ off : Fin 5, off.val = min n.toNat 4 ∧
      exec (.frSetoff n) s = .next ({ s with fr := { s.fr with off := off } }.answered .ok .none)) ∧
    (∀ v : U16, exec (.packData v) s = .next
      ({ s with fr := ⟨s.fr.raw0, hiByte (v <<< s.fr.off.val), loByte (v <<< s.fr.off.val), s.fr.off⟩ }.answered
        .ok .none)) ∧
    (∀ a : U32, exec (.packAddr a) s = .next
      ({ s with fr := { s.fr with raw0 := (s.fr.raw0 &&& 0xF8) ||| BitVec.ofNat 8 (min a.toNat 7) } }.answered
        .ok .none)) ∧
    (∀ c : U32, exec (.packCmd c) s = .next
      ({ s with fr := { s.fr with raw0 := (s.fr.raw0 &&& 0xC7) ||| BitVec.ofNat 8 (min c.toNat 7 * 8) } }.answered
        .ok .none))

/-- R136 to R139: the reading codec words, each with its response and nothing else. -/
def Obligations.CodecReadersResult : Prop :=
  ∀ s : State, s.fault = .none →
    exec .unpackData s = .next (s.answered .ok (.u16 (BitVec.ofNat 16 (s.fr.raw1.toNat * 256 + s.fr.raw2.toNat)))) ∧
    exec .unpackAddr s = .next (s.answered .ok (.u3 (BitVec.ofNat 3 (s.fr.raw0.toNat % 8)))) ∧
    exec .unpackCmd s = .next (s.answered .ok (.u3 (BitVec.ofNat 3 (s.fr.raw0.toNat / 8 % 8)))) ∧
    exec .frRead s = .next (s.answered .ok
      (.u24 (BitVec.ofNat 24 (s.fr.raw0.toNat * 65536 + s.fr.raw1.toNat * 256 + s.fr.raw2.toNat))))

/-! ### Channels (41_channel.md) -/

/-- R151: on a slot whose identity is not valid every channel word clears `en`, responds (IGN, none) and does nothing
else; its operands are not examined. -/
def Obligations.InvalidIdentityClearsEnabled : Prop :=
  ∀ (i : Instr) (sel : Byte) (s : State), s.fault = .none → channelSelOf i = some sel →
    (sel = 0 → s.cfg.chanIdA ≠ 0 → s.cfg.chanIdA ≠ 1 →
      exec i s = .next ({ s with chA := { s.chA with en := false } }.answered .ign .none)) ∧
    (sel = 1 → s.cfg.chanIdB ≠ 0 → s.cfg.chanIdB ≠ 1 →
      exec i s = .next ({ s with chB := { s.chB with en := false } }.answered .ign .none))

/-- R152: CH_SETOUT sends the code, shifted by `BIT_OFFSET`, as WR_IN or WR_UPD to the slot's identity, and responds
with the frame; an exchange that fails changes nothing but `FAULT`.
That `resp` stays where no response is produced is the model's reading (log entry 9). -/
def Obligations.ChSetoutResult : Prop :=
  ∀ (sel : Byte) (slot : Slot) (code : U16) (au : Bool) (s : State), s.fault = .none → s.DefaultCodes →
    s.Selects sel slot →
    (s.busOk = true → exec (.chSetout sel code au) s = .next
      (s.sentAnswered ((if au then 0x18 else 0x00) ||| s.chanId slot) (hiByte (s.dataOf code))
        (loByte (s.dataOf code)))) ∧
    (s.busOk = false → exec (.chSetout sel code au) s = .next s.busFailed)

/-- R153, R160: CH_SETV with a finite operand and a denominator that is not 0 sends the code of the voltage as
CH_SETOUT does; a non-finite operand or a zero denominator faults and sends nothing.
That `resp` stays where no response is produced is the model's reading (log entry 9). -/
def Obligations.ChSetvResult : Prop :=
  ∀ (sel : Byte) (slot : Slot) (au : Bool) (w : U32) (s : State), s.fault = .none → s.DefaultCodes →
    s.Selects sel slot →
    (f32 w = none → exec (.chSetv sel au w) s = .next { s with fault := .nonfinite }) ∧
    (∀ q, f32 w = some q →
      (s.vref * (s.channel slot).gain.factor = 0 →
        exec (.chSetv sel au w) s = .next { s with fault := .div0 }) ∧
      (s.vref * (s.channel slot).gain.factor ≠ 0 → s.busOk = true → exec (.chSetv sel au w) s = .next
        (s.sentAnswered ((if au then 0x18 else 0x00) ||| s.chanId slot)
          (hiByte (s.dataOf (s.codeOf slot q))) (loByte (s.dataOf (s.codeOf slot q))))) ∧
      (s.vref * (s.channel slot).gain.factor ≠ 0 → s.busOk = false →
        exec (.chSetv sel au w) s = .next s.busFailed))

/-- R154, R161: CH_GAIN with a mode 0 to 3 sends `02 00 mode` and then sets this slot's cached factor, the other slot's
staying; a mode above 3 is ignored; an exchange that fails leaves the cache.
That `resp` stays where no response is produced is the model's reading (log entry 9). -/
def Obligations.ChGainResult : Prop :=
  ∀ (sel : Byte) (slot : Slot) (mode : U16) (s : State), s.fault = .none → s.DefaultCodes → s.Selects sel slot →
    (3 < mode.toNat → exec (.chGain sel mode) s = .next (s.answered .ign .none)) ∧
    (mode.toNat ≤ 3 → s.busOk = true → exec (.chGain sel mode) s = .next
      ((s.setGain slot (factorOf mode (s.chanId slot))).sentAnswered 0x02 0x00 (loByte mode))) ∧
    (mode.toNat ≤ 3 → s.busOk = false → exec (.chGain sel mode) s = .next s.busFailed)

/-- R155: CH_UPDATE sends the zero-data update frame of the slot's identity.
That `resp` stays where no response is produced is the model's reading (log entry 9). -/
def Obligations.ChUpdateResult : Prop :=
  ∀ (sel : Byte) (slot : Slot) (s : State), s.fault = .none → s.DefaultCodes → s.Selects sel slot →
    (s.busOk = true → exec (.chUpdate sel) s = .next (s.sentAnswered (0x08 ||| s.chanId slot) 0x00 0x00)) ∧
    (s.busOk = false → exec (.chUpdate sel) s = .next s.busFailed)

/-- R156, R157: CH_EN and CH_DIS send the slot's POWER frame, with mode 0 and with `PD_MODE`, and then set and clear
`en`; an exchange that fails leaves `en`.
That `resp` stays where no response is produced is the model's reading (log entry 9). -/
def Obligations.ChEnAndChDisResult : Prop :=
  ∀ (sel : Byte) (slot : Slot) (s : State), s.fault = .none → s.DefaultCodes → s.Selects sel slot →
    (s.busOk = true →
      exec (.chEn sel) s = .next
        ((s.setEn slot true).sentAnswered 0x20 0x00 (if s.chanId slot = 0 then 0x01 else 0x02)) ∧
      exec (.chDis sel) s = .next ((s.setEn slot false).sentAnswered 0x20 0x00
        (BitVec.ofNat 8 (s.pdMode.toNat * 16) ||| (if s.chanId slot = 0 then 0x01 else 0x02)))) ∧
    (s.busOk = false → exec (.chEn sel) s = .next s.busFailed ∧ exec (.chDis sel) s = .next s.busFailed)

/-- R158, R159: CH_D2V returns the binary32 word nearest `code · VREF · gain / FULL_SCALE`; CH_V2D returns the code of
a voltage, or faults; neither sends anything or changes any other state.
That `resp` stays where no response is produced is the model's reading (log entry 9). -/
def Obligations.ChConversionsResult : Prop :=
  ∀ (sel : Byte) (slot : Slot) (s : State), s.fault = .none → s.Selects sel slot →
    (∀ code : U16, exec (.chD2v sel code) s = .next (s.answered .ok (.binary32 (rne32
      ((code.toNat : Rat) * s.vref * (s.channel slot).gain.factor / s.cfg.fullScale))))) ∧
    (∀ w : U32, f32 w = none → exec (.chV2d sel w) s = .next { s with fault := .nonfinite }) ∧
    (∀ (w : U32) (q : Rat), f32 w = some q →
      (s.vref * (s.channel slot).gain.factor = 0 → exec (.chV2d sel w) s = .next { s with fault := .div0 }) ∧
      (s.vref * (s.channel slot).gain.factor ≠ 0 →
        exec (.chV2d sel w) s = .next (s.answered .ok (.u16 (s.codeOf slot q)))))

/-- 41_channel.md section 3, first sentence: under exact arithmetic the voltage of a code converts back to that code,
for every reference above 0, both gains, and every code up to full scale. -/
def Obligations.VoltsToCodeInvertsCodeToVolts : Prop :=
  ∀ (fullScale : Nat) (vref : Rat) (gain : Gain) (c : U16), 1 ≤ fullScale → 0 < vref → c.toNat ≤ fullScale →
    voltsToCode fullScale vref gain ((c.toNat : Rat) * vref * gain.factor / fullScale) = some c

/-- 41_channel.md section 3, second sentence: through the control port, where CH_D2V rounds to binary32, CH_V2D of
CH_D2V of a code still is that code, whenever the voltage is 0 or in the binary32 normal range. -/
def Obligations.PortRoundTripReturnsTheCode : Prop :=
  ∀ (sel : Byte) (slot : Slot) (s : State) (c : U16) (volts : Rat), s.fault = .none → s.Ok → 0 < s.vref →
    s.Selects sel slot → c.toNat ≤ s.cfg.fullScale →
    volts = (c.toNat : Rat) * s.vref * (s.channel slot).gain.factor / s.cfg.fullScale →
    (volts = 0 ∨ (1 / 2 ^ 126 ≤ volts ∧ volts < 2 ^ 128)) →
    ∃ w, exec (.chD2v sel c) s = .next (s.answered .ok (.binary32 w)) ∧
      exec (.chV2d sel w) s = .next (s.answered .ok (.u16 c))

/-- R14, R162: `rne32` of a rational up to the greatest finite binary32 value is a finite word, no finite word is
nearer, and on a tie with another value its last significand bit is 0 (ties to even); on the whole binary32 normal range,
of either sign, the relative error is at most `2^-24`. -/
def Obligations.Rne32RoundsToNearestEven : Prop :=
  ∀ q : Rat, |q| ≤ (2 - 1 / 2 ^ 23) * 2 ^ 127 →
    ∃ r, f32 (rne32 q) = some r ∧
      (∀ (w : U32) (x : Rat), f32 w = some x → |r - q| ≤ |x - q|) ∧
      (∀ (w : U32) (x : Rat), f32 w = some x → x ≠ r → |x - q| = |r - q| → (rne32 q).getLsbD 0 = false) ∧
      (1 / 2 ^ 126 ≤ |q| → |r - q| ≤ |q| / 2 ^ 24)

/-- R14, R13: a finite binary32 word is its own rounding, so that no value of the format is moved; the two words of 0
have one value, whose rounding is the word of +0. -/
def Obligations.Rne32FixesBinary32Values : Prop :=
  (∀ (w : U32) (q : Rat), f32 w = some q → q ≠ 0 → rne32 q = w) ∧
  f32 0x00000000 = some 0 ∧ f32 0x80000000 = some 0 ∧ rne32 0 = 0x00000000

/-! ### Faults (60_exceptions.md) -/

/-- R261: a non-finite operand faults with `F_NONFINITE` and nothing else happens, for every operation with a real
operand.
That `resp` stays where no response is produced is the model's reading (log entry 9). -/
def Obligations.NonFiniteOperandFaults : Prop :=
  ∀ (w : U32) (s : State), s.fault = .none → f32 w = none →
    (∀ sel slot au, s.Selects sel slot → exec (.chSetv sel au w) s = .next { s with fault := .nonfinite }) ∧
    (∀ sel slot, s.Selects sel slot → exec (.chV2d sel w) s = .next { s with fault := .nonfinite }) ∧
    exec (.devVref w) s = .next { s with fault := .nonfinite } ∧
    (∀ sel o, s.SelectsOsc sel o →
      exec (.oscFreq sel w) s = .next { s with fault := .nonfinite } ∧
      exec (.oscAmp sel w) s = .next { s with fault := .nonfinite } ∧
      exec (.oscPhase sel w) s = .next { s with fault := .nonfinite } ∧
      exec (.oscDc sel w) s = .next { s with fault := .nonfinite })

/-- R262, R239: with `VREF = 0` a conversion to a code faults with `F_DIV0`: CH_SETV, CH_V2D, and a tick that comes to
a Running voltage-mode oscillator on a slot of valid identity, on the control port and on the tick input. The oscillators
before it have been served, its own accumulator has advanced, and those after it are untouched. CH_D2V does not fault.
That `resp` stays where no response is produced is the model's reading (log entry 9). -/
def Obligations.ZeroReferenceFaults : Prop :=
  ∀ s : State, s.fault = .none → s.vref = 0 →
    (∀ (sel : Byte) (slot : Slot) (au : Bool) (w : U32) (q : Rat), s.Selects sel slot → f32 w = some q →
      exec (.chSetv sel au w) s = .next { s with fault := .div0 } ∧
      exec (.chV2d sel w) s = .next { s with fault := .div0 }) ∧
    (∀ (pre : List Osc) (o : Osc) (post : List Osc), s.Ok → s.DefaultCodes → s.oscs = pre ++ o :: post →
      (∀ x ∈ pre, x.run = true → x.vmode = true → validId (s.chanId x.bind) = false) →
      s.busOkFor (s.framesOf pre).length → o.run = true → o.vmode = true → validId (s.chanId o.bind) = true →
      exec .tick s = .next { s.served pre (o.ticked s.cfg.sps :: post) with fault := .div0 } ∧
      ∀ rest, step { s with inputs := .tick :: rest } =
        .next { s.served pre (o.ticked s.cfg.sps :: post) with fault := .div0, inputs := rest }) ∧
    (∀ (sel : Byte) (slot : Slot) (code : U16), s.Selects sel slot → ∃ v, exec (.chD2v sel code) s =
      .next (s.answered .ok v))

/-- R239, R263, R266: when the exchange of a Running oscillator's frame does not complete, the tick faults with `F_BUS`,
on the control port and on the tick input. The oscillators before it have been served, their frames staying in EVLOG; its
own accumulator has advanced; those after it are untouched; there is no response and `pc` stays.
That `resp` stays where no response is produced is the model's reading (log entry 9). -/
def Obligations.TickStopsAtAFailedExchange : Prop :=
  ∀ (s : State) (pre : List Osc) (o : Osc) (post : List Osc), s.fault = .none → s.Ok → s.DefaultCodes →
    s.oscs = pre ++ o :: post → o.run = true → validId (s.chanId o.bind) = true →
    (0 < s.vref ∨ ∀ x ∈ pre ++ [o], x.run = true → x.vmode = false) →
    s.busOkFor (s.framesOf pre).length → (s.served pre (o :: post)).busOk = false →
    exec .tick s = .next (s.served pre (o.ticked s.cfg.sps :: post)).busFailed ∧
    ∀ rest, step { s with inputs := .tick :: rest } =
      .next { (s.served pre (o.ticked s.cfg.sps :: post)).busFailed with inputs := rest }

/-- R263, R266: an exchange that does not complete faults with `F_BUS`; EVLOG, `LAST_FRAME` and every cache keep their
values, for every operation that sends one frame (CH_SETV once its operand has a code), and for the first frame of
DEV_INTREF.
That `resp` stays where no response is produced is the model's reading (log entry 9). -/
def Obligations.FailedExchangeChangesOnlyFault : Prop :=
  ∀ s : State, s.fault = .none → s.busOk = false →
    (∀ sel slot, s.Selects sel slot →
      (∀ code au, exec (.chSetout sel code au) s = .next s.busFailed) ∧
      (∀ (au : Bool) (w : U32) (q : Rat), f32 w = some q → s.vref ≠ 0 →
        exec (.chSetv sel au w) s = .next s.busFailed) ∧
      (∀ mode : U16, mode.toNat ≤ 3 → exec (.chGain sel mode) s = .next s.busFailed) ∧
      exec (.chUpdate sel) s = .next s.busFailed ∧
      exec (.chEn sel) s = .next s.busFailed ∧
      exec (.chDis sel) s = .next s.busFailed) ∧
    (∀ mode, exec (.devSyncmode mode) s = .next s.busFailed) ∧
    exec .devRstInput s = .next s.busFailed ∧
    exec .devRstFactory s = .next s.busFailed ∧
    (∀ data addr cmd cfg, exec (.devWrite data addr cmd cfg) s = .next s.busFailed) ∧
    (∀ v, exec (.devIntref v) s = .next s.busFailed)

/-- R266's example: when the third exchange of the default sequence fails, the two POWER frames, `PD_MODE = 1` and both
flags cleared stay done, and nothing after them is done.
That `resp` stays where no response is produced is the model's reading (log entry 9). -/
def Obligations.FaultAtThirdDefaultFrameKeepsTheFirstTwo : Prop :=
  ∀ s : State, s.fault = .none → s.DefaultCodes → s.DefaultIds → s.busOkFor 2 → s.afterDraw.afterDraw.busOk = false →
    exec .devDefault s = .next
      { s with
        pdMode := 1
        chA := { s.chA with en := false }
        chB := { s.chB with en := false }
        evlog := s.evlog ++ [.frame 0x20 0x00 0x11, .frame 0x20 0x00 0x12]
        lastFrame := 0x200012
        bus := s.bus.drop 3
        busDrawn := s.busDrawn + 3
        fault := .bus }

/-! ### The device (42_device.md) -/

/-- R181, R182: the frames of DEV_INIT and DEV_DEFAULT in their order (a slot of invalid identity contributes none and
has `en` cleared), and the whole state after them when every exchange completes. -/
def Obligations.DefaultSequenceResult : Prop :=
  ∀ s : State, s.fault = .none → s.DefaultCodes →
    let frames : List Event := s.perSlot (powerFrame 1) ++ [.frame 0x30 0x00 0x03, .frame 0x38 0x00 0x01] ++
      s.perSlot (fun _ => .frame 0x02 0x00 0x00)
    s.busOkFor frames.length →
    ∀ i, i = .devInit ∨ i = .devDefault →
    exec i s = .next
      ({ s.sentAll frames with
          pdMode := 1
          ldacMode := 3
          intrefEn := true
          chA := ⟨if validId s.cfg.chanIdA then .two else s.chA.gain, false⟩
          chB := ⟨if validId s.cfg.chanIdB then .two else s.chB.gain, false⟩ }.answered .ok
        (.u24 (lastFrameOf frames)))

/-- R184: DEV_INTREF sends the reference frame and then a GAIN frame per slot of valid identity, sets `INTREF_EN`, and
forces both cached gains to 2 on enable and 1 on disable; `VREF` is not changed. -/
def Obligations.DevIntrefResult : Prop :=
  ∀ (v : U16) (s : State), s.fault = .none → s.DefaultCodes →
    let e := v.getLsbD 0
    let frames : List Event := .frame 0x38 0x00 (if e then 0x01 else 0x00) ::
      s.perSlot (fun _ => .frame 0x02 0x00 (if e then 0x00 else 0x03))
    s.busOkFor frames.length →
    exec (.devIntref v) s = .next
      ({ s.sentAll frames with
          intrefEn := e
          chA := s.chA.afterIntref s.cfg.chanIdA e
          chB := s.chB.afterIntref s.cfg.chanIdB e }.answered .ok (.u24 (lastFrameOf frames)))

/-- R183: DEV_VREF clamps a finite operand into [0, 5] and sends nothing; a non-finite one faults.
That `resp` stays where no response is produced is the model's reading (log entry 9). -/
def Obligations.DevVrefResult : Prop :=
  ∀ (w : U32) (s : State), s.fault = .none →
    (f32 w = none → exec (.devVref w) s = .next { s with fault := .nonfinite }) ∧
    (∀ q, f32 w = some q →
      exec (.devVref w) s = .next
        ({ s with vref := if q < 0 then 0 else if 5 < q then 5 else q }.answered .ok .none))

/-- R185, R186, R189, R193: attaching and detaching a line set its flag; a pulse is one event if the line is attached
and nothing if not; the response is OK in every case. -/
def Obligations.ControlLinesResult : Prop :=
  ∀ s : State, s.fault = .none →
    exec .devAttSync s = .next ({ s with syncAtt := true }.answered .ok .none) ∧
    exec .devDetSync s = .next ({ s with syncAtt := false }.answered .ok .none) ∧
    exec .devAttClr s = .next ({ s with clrAtt := true }.answered .ok .none) ∧
    exec .devDetClr s = .next ({ s with clrAtt := false }.answered .ok .none) ∧
    (s.syncAtt = true → exec .devLdacPulse s = .next
      ({ s with evlog := s.evlog ++ [Event.pulse .ldac] }.answered .ok .none)) ∧
    (s.syncAtt = false → exec .devLdacPulse s = .next (s.answered .ok .none)) ∧
    (s.clrAtt = true → exec .devClrPulse s = .next
      ({ s with evlog := s.evlog ++ [Event.pulse .clr] }.answered .ok .none)) ∧
    (s.clrAtt = false → exec .devClrPulse s = .next (s.answered .ok .none))

/-- R188, R190: DEV_SYNCMODE saturates its mode at 3, sends it, and then caches it; DEV_PDMODE saturates its mode at 3
and stores it, sending nothing.
That `resp` stays where no response is produced is the model's reading (log entry 9). -/
def Obligations.ModeWordsResult : Prop :=
  ∀ (m : U16) (s : State), s.fault = .none →
    (s.DefaultCodes → s.busOk = true → exec (.devSyncmode m) s = .next
      ({ s with ldacMode := BitVec.ofNat 2 (min m.toNat 3) }.sentAnswered 0x30 0x00
        (BitVec.ofNat 8 (min m.toNat 3)))) ∧
    (s.busOk = false → exec (.devSyncmode m) s = .next s.busFailed) ∧
    exec (.devPdmode m) s = .next ({ s with pdMode := BitVec.ofNat 2 (min m.toNat 3) }.answered .ok .none)

/-- R191, R192, R194, R195: the software resets and the raw write send their frame, change no cache and respond with
the frame; DEV_LAST responds with `LAST_FRAME`.
That `resp` stays where no response is produced is the model's reading (log entry 9). -/
def Obligations.ResetsRawWriteAndLastResult : Prop :=
  ∀ s : State, s.fault = .none →
    exec .devLast s = .next (s.answered .ok (.u24 s.lastFrame)) ∧
    (s.busOk = false →
      exec .devRstInput s = .next s.busFailed ∧
      exec .devRstFactory s = .next s.busFailed ∧
      ∀ data addr cmd cfg, exec (.devWrite data addr cmd cfg) s = .next s.busFailed) ∧
    (s.busOk = true →
      (s.DefaultCodes →
        exec .devRstInput s = .next (s.sentAnswered 0x28 0x00 0x00) ∧
        exec .devRstFactory s = .next (s.sentAnswered 0x28 0x00 0x01)) ∧
      ∀ (data : U16) (addr cmd : Byte) (cfg : Bool),
        let d := if cfg then data else s.dataOf data
        exec (.devWrite data addr cmd cfg) s = .next (s.sentAnswered
          (BitVec.ofNat 8 (min cmd.toNat 7 * 8 + min addr.toNat 7)) (hiByte d) (loByte d)))

/-! ### Oscillators (43_oscillator.md) -/

/-- R220, R221, R236, R237: OSC_EN and OSC_DIS set and clear `run` and keep the phase; OSC_VMODE takes bit 0; OSC_IDX
reads the accumulator. -/
def Obligations.OscFlagWordsResult : Prop :=
  ∀ (sel : Byte) (o : Osc) (s : State), s.fault = .none → s.SelectsOsc sel o →
    exec (.oscEn sel) s = .next
      ((s.setOsc sel.toNat { o with run := true }).answered .ok .none) ∧
    exec (.oscDis sel) s = .next
      ((s.setOsc sel.toNat { o with run := false }).answered .ok .none) ∧
    (∀ v : U16, exec (.oscVmode sel v) s = .next
      ((s.setOsc sel.toNat { o with vmode := v.getLsbD 0 }).answered .ok .none)) ∧
    exec (.oscIdx sel) s = .next (s.answered .ok (.u16 (BitVec.ofNat 16 o.idx)))

/-- R222, R224: OSC_FREQ holds any finite value; OSC_PHASE holds its operand reduced into [0, N), from which it differs
by a multiple of N; a non-finite operand faults.
That `resp` stays where no response is produced is the model's reading (log entry 9). -/
def Obligations.OscFreqAndPhaseResult : Prop :=
  ∀ (sel : Byte) (o : Osc) (w : U32) (s : State), s.fault = .none → s.SelectsOsc sel o →
    (f32 w = none →
      exec (.oscFreq sel w) s = .next { s with fault := .nonfinite } ∧
      exec (.oscPhase sel w) s = .next { s with fault := .nonfinite }) ∧
    (∀ q, f32 w = some q →
      exec (.oscFreq sel w) s = .next
        ((s.setOsc sel.toNat { o with freq := q }).answered .ok .none) ∧
      (1 ≤ o.size → ∃ (p : Rat) (k : Int), 0 ≤ p ∧ p < o.size ∧ q - p = k * o.size ∧
        exec (.oscPhase sel w) s = .next
          ((s.setOsc sel.toNat { o with ph := p }).answered .ok .none)))

/-- R223, R225, R230, with the tables of R226: the amplitude and the offset are clamped and the table of a SINE or SAW
oscillator is regenerated; a change of kind regenerates it too; an ARB table stays; a kind above 2 is ignored.
That `resp` stays where no response is produced is the model's reading (log entry 9). -/
def Obligations.OscTableParametersResult : Prop :=
  ∀ (sel : Byte) (o : Osc) (s : State), s.fault = .none → s.SelectsOsc sel o →
    (∀ w : U32, f32 w = none →
      exec (.oscAmp sel w) s = .next { s with fault := .nonfinite } ∧
      exec (.oscDc sel w) s = .next { s with fault := .nonfinite }) ∧
    (∀ (w : U32) (q amp : Rat), f32 w = some q → amp = (if q < 0 then 0 else if 1 < q then 1 else q) →
      exec (.oscAmp sel w) s = .next
        ((s.setOsc sel.toNat { o with amp := amp, table := o.tableFor s.cfg.fullScale o.kind amp o.dc }).answered
          .ok .none)) ∧
    (∀ (w : U32) (q dc : Rat), f32 w = some q → dc = (if q < -1 then -1 else if 1 < q then 1 else q) →
      exec (.oscDc sel w) s = .next
        ((s.setOsc sel.toNat { o with dc := dc, table := o.tableFor s.cfg.fullScale o.kind o.amp dc }).answered
          .ok .none)) ∧
    (∀ (k : U16) (kind : Kind), (k, kind) ∈ [(0, .sine), (1, .saw), (2, .arb)] →
      exec (.oscKind sel k) s = .next
        ((s.setOsc sel.toNat
          { o with kind := kind, table := o.tableFor s.cfg.fullScale kind o.amp o.dc }).answered .ok .none)) ∧
    (∀ k : U16, 2 < k.toNat → exec (.oscKind sel k) s = .next (s.answered .ign .none))

/-- R233, R234, R235: OSC_TWR writes one entry and OSC_TRD reads one, an index of N or more being ignored; OSC_BIND
binds to slot A or B, another slot being ignored. -/
def Obligations.OscTableAndBindResult : Prop :=
  ∀ (sel : Byte) (o : Osc) (s : State), s.fault = .none → s.SelectsOsc sel o →
    (∀ (code : U16) (i : U32),
      (o.size ≤ i.toNat → exec (.oscTwr sel code i) s = .next (s.answered .ign .none) ∧
        exec (.oscTrd sel i) s = .next (s.answered .ign .none)) ∧
      (i.toNat < o.size →
        exec (.oscTwr sel code i) s = .next
          ((s.setOsc sel.toNat { o with table := o.table.set i.toNat code }).answered .ok .none) ∧
        ∃ v, s.entry sel.toNat i.toNat = some v ∧
          exec (.oscTrd sel i) s = .next (s.answered .ok (.u16 v)))) ∧
    (∀ b : U16,
      (b = 0 → exec (.oscBind sel b) s = .next
        ((s.setOsc sel.toNat { o with bind := .a }).answered .ok .none)) ∧
      (b = 1 → exec (.oscBind sel b) s = .next
        ((s.setOsc sel.toNat { o with bind := .b }).answered .ok .none)) ∧
      (1 < b.toNat → exec (.oscBind sel b) s = .next (s.answered .ign .none)))

/-- R240: the sample exists, lies between the two entries beside the read position, and with an integral phase is the
entry at the position itself. -/
def Obligations.SampleLiesBetweenItsNeighbours : Prop :=
  ∀ o : Osc, 1 ≤ o.size → 0 ≤ o.ph →
    ∃ (k : Nat) (a b code : U16), k < o.size ∧ (⌊(o.idx : Rat) + o.ph⌋ - k) % (o.size : Int) = 0 ∧
      o.table[k]? = some a ∧ o.table[(k + 1) % o.size]? = some b ∧ o.sample = some code ∧
      min a.toNat b.toNat ≤ code.toNat ∧ code.toNat ≤ max a.toNat b.toNat ∧
      ((code.toNat : Int) = roundHa ((a.toNat : Rat) +
        ((o.idx : Rat) + o.ph - ⌊(o.idx : Rat) + o.ph⌋) * ((b.toNat : Rat) - a.toNat))) ∧
      ((∃ n : Int, o.ph = n) → code = a)

/-- R239, R241, R242: a tick in which every exchange completes serves the Running oscillators in ascending order, each
sampled, advanced and sent to its slot as a write-and-update, through the gain in voltage mode; the TICK word responds
with the last frame, if there was one. R238: a tick on the tick input does the same, without a response and with its
input used up; that `resp` then stays is the model's reading (log entry 9). -/
def Obligations.TickServesEveryRunningOscillator : Prop :=
  ∀ s : State, s.fault = .none → s.Ok → s.DefaultCodes → s.busOkFor s.tickFrames.length →
    (0 < s.vref ∨ ∀ o ∈ s.oscs, o.run = true → o.vmode = false) →
    exec .tick s = .next
      (s.afterTick.answered .ok (if s.tickFrames = [] then .none else .u24 (lastFrameOf s.tickFrames))) ∧
    ∀ rest, step { s with inputs := .tick :: rest } = .next { s.afterTick with inputs := rest }

/-- R243: for constant parameters, the accumulator of a Running oscillator after `n` ticks on the tick input (no fault
being raised) is `(idx0 + n · step) mod N`, and the rest of its record is as it was. -/
def Obligations.AccumulatorAfterManyTicks : Prop :=
  ∀ (s t : State) (n i : Nat) (rest : List Input) (o : Osc), s.inputs = List.replicate n .tick ++ rest →
    s.oscs[i]? = some o → o.run = true → o.idx < o.size → Host.Core.run Sys2Proof.core n s = .next t →
    t.fault = .none →
    t.oscs[i]? = some
      { o with idx := (((o.idx : Int) + n * ⌊o.freq * o.size / s.cfg.sps⌋) % (o.size : Int)).toNat }

/-- R243's numbers: frequency 100, table size 1639, sample rate 1000 give a step of 163, and from 0 the accumulator
takes these values after ticks 1 to 11. -/
def Obligations.AccumulatorExampleOfTheSpec : Prop :=
  ∀ o : Osc, o.size = 1639 → o.freq = 100 → o.idx = 0 →
    o.stepSize 1000 = 163 ∧
    ((List.range 11).map fun n => (Nat.repeat (Osc.advance 1000) (n + 1) o).idx) =
      [163, 326, 489, 652, 815, 978, 1141, 1304, 1467, 1630, 154]

/-- R244: for a SINE oscillator with `dc = 0` and even N, entries half a period apart add up to `FULL_SCALE` or
`FULL_SCALE + 1`, the latter exactly when the unrounded value ends in one half. -/
def Obligations.SineTableSymmetry : Prop :=
  ∀ (fullScale : Nat) (o : Osc) (i : Nat), fullScale ≤ 65535 → o.kind = .sine → o.dc = 0 → 0 ≤ o.amp → o.amp ≤ 1 →
    o.size % 2 = 0 → i < o.size / 2 →
    ∃ a b : U16, (o.regen fullScale).table[i]? = some a ∧ (o.regen fullScale).table[i + o.size / 2]? = some b ∧
      (a.toNat + b.toNat = fullScale ∨ a.toNat + b.toNat = fullScale + 1) ∧
      (a.toNat + b.toNat = fullScale + 1 ↔
        Int.fract ((fullScale : Rat) / 2 + o.amp * (fullScale / 2) * Config.sin i o.size) = 1 / 2)

/-! ### Wire frames and the converter (30_encoding.md section 2) -/

/-- R64, R80, R84 to R92 and the model's reading of a wire-frame row (log entry 10): each of the 17 rows is one bus
exchange of its frame. -/
def Obligations.WireFramesAreExchanged : Prop :=
  ∀ (row : (U16 → Instr) × Byte), row ∈
    [(Instr.frameWrInA, 0x00#8), (Instr.frameWrInB, 0x01), (Instr.frameWrInBoth, 0x07), (Instr.frameGain, 0x02),
      (Instr.frameUpdA, 0x08), (Instr.frameUpdB, 0x09), (Instr.frameUpdBoth, 0x0F), (Instr.frameWrUpdAllA, 0x10),
      (Instr.frameWrUpdAllB, 0x11), (Instr.frameWrUpdAllBoth, 0x17), (Instr.frameWrUpdA, 0x18),
      (Instr.frameWrUpdB, 0x19), (Instr.frameWrUpdBoth, 0x1F), (Instr.framePower, 0x20), (Instr.frameReset, 0x28),
      (Instr.frameLdac, 0x30), (Instr.frameIntref, 0x38)] →
    ∀ (data : U16) (s : State), s.fault = .none →
      (s.busOk = true → exec (row.1 data) s = .next (s.sent row.2 (hiByte data) (loByte data))) ∧
      (s.busOk = false → exec (row.1 data) s = .next s.busFailed)

/-- R293, over the model's view of the converter (log entry 16): after a DEV_INIT or DEV_DEFAULT with no fault, what is
known of the converter agrees with the block's caches. -/
def Obligations.CachesAgreeWithTheConverterAfterInit : Prop :=
  ∀ (i : Instr) (s t : State), i = .devInit ∨ i = .devDefault → s.fault = .none → s.DefaultCodes → s.DefaultIds →
    exec i s = .next t → t.fault = .none →
    (converterAfter t.evlog).powerA = some 1 ∧ (converterAfter t.evlog).powerB = some 1 ∧
    (converterAfter t.evlog).ldac = some 3 ∧ (converterAfter t.evlog).reference = some true ∧
    (converterAfter t.evlog).gain = some 0 ∧
    t.pdMode = 1 ∧ t.chA = ⟨.two, false⟩ ∧ t.chB = ⟨.two, false⟩ ∧ t.ldacMode = 3 ∧ t.intrefEn = true

/-- R301, over the model's view of the converter (log entry 16): `CH_GAIN A, A1_B2` sets the converter's gain register
for both channels but only slot A's cached factor. -/
def Obligations.GainWriteFromOneSlotSetsBothAtTheConverter : Prop :=
  ∀ s t : State, s.fault = .none → s.DefaultCodes → s.DefaultIds → exec (.chGain 0 1) s = .next t → t.fault = .none →
    (converterAfter t.evlog).gain = some 1 ∧ t.chA.gain = .one ∧ t.chB = s.chB
end

