-- ==== Sys2Proof/Laws/Decode.lean ====
section
/-! SUPPORT. The fields of a control word and of a frame that were put together from their fields (spec/30_encoding.md
R80, R100). Proofs about the decoder cite these instead of computing with 64-bit words. -/

namespace Sys2Proof

variable (op sel : Byte) (imm : U16) (w32 : U32) (b : Byte) (d : U16)

/-- OP of a built word. -/
@[simp] theorem opField_mkWord : opField (mkWord op sel imm w32) = op := by
  apply BitVec.eq_of_getLsbD_eq; intro i hi
  simp only [opField, mkWord, BitVec.getLsbD_append, BitVec.getLsbD_extractLsb']
  simp [hi, show ¬ (56 + i < 32) by omega, show ¬ (56 + i - 32 < 16) by omega, show ¬ (56 + i - 32 - 16 < 8) by omega,
    show 56 + i - 32 - 16 - 8 = i by omega]

/-- SEL of a built word. -/
@[simp] theorem selField_mkWord : selField (mkWord op sel imm w32) = sel := by
  apply BitVec.eq_of_getLsbD_eq; intro i hi
  simp only [selField, mkWord, BitVec.getLsbD_append, BitVec.getLsbD_extractLsb']
  simp [hi, show ¬ (48 + i < 32) by omega, show ¬ (48 + i - 32 < 16) by omega, show 48 + i - 32 - 16 = i by omega]

/-- IMM16 of a built word. -/
@[simp] theorem immField_mkWord : immField (mkWord op sel imm w32) = imm := by
  apply BitVec.eq_of_getLsbD_eq; intro i hi
  simp only [immField, mkWord, BitVec.getLsbD_append, BitVec.getLsbD_extractLsb']
  simp [hi, show ¬ (32 + i < 32) by omega]

/-- W32 of a built word. -/
@[simp] theorem w32Field_mkWord : w32Field (mkWord op sel imm w32) = w32 := by
  apply BitVec.eq_of_getLsbD_eq; intro i hi
  simp only [w32Field, mkWord, BitVec.getLsbD_append, BitVec.getLsbD_extractLsb']
  simp [hi]

/-- CMD of a built frame. -/
@[simp] theorem cmdField_append : cmdField (b ++ d) = b.extractLsb' 3 3 := by
  apply BitVec.eq_of_getLsbD_eq; intro i hi
  simp only [cmdField, BitVec.getLsbD_append, BitVec.getLsbD_extractLsb']
  simp [hi, show ¬ (19 + i < 16) by omega, show 19 + i - 16 = 3 + i by omega]

/-- ADDR of a built frame. -/
@[simp] theorem addrField_append : addrField (b ++ d) = b.extractLsb' 0 3 := by
  apply BitVec.eq_of_getLsbD_eq; intro i hi
  simp only [addrField, BitVec.getLsbD_append, BitVec.getLsbD_extractLsb']
  simp [hi]

/-- Data of a built frame. -/
@[simp] theorem dataField_append : dataField (b ++ d) = d := by
  apply BitVec.eq_of_getLsbD_eq; intro i hi
  simp only [dataField, BitVec.getLsbD_append, BitVec.getLsbD_extractLsb']
  simp [hi]

/-- A built word as a number: its fields at their places. -/
theorem mkWord_toNat :
    (mkWord op sel imm w32).toNat = op.toNat * 2 ^ 56 + sel.toNat * 2 ^ 48 + imm.toNat * 2 ^ 32 + w32.toNat := by
  have h1 := sel.isLt
  have h2 := imm.isLt
  have h3 := w32.isLt
  simp only [mkWord, BitVec.toNat_append]
  rw [← Nat.shiftLeft_add_eq_or_of_lt h1, ← Nat.shiftLeft_add_eq_or_of_lt h2, ← Nat.shiftLeft_add_eq_or_of_lt h3]
  simp only [Nat.shiftLeft_eq]
  ring

/-- A built frame as a number. -/
theorem frame_toNat : (b ++ d).toNat = b.toNat * 2 ^ 16 + d.toNat := by
  have h := d.isLt
  rw [BitVec.toNat_append, ← Nat.shiftLeft_add_eq_or_of_lt h, Nat.shiftLeft_eq]

/-- A number below `2^64` whose top byte is `op`, under the mask of a control-word row. -/
theorem mask_control (op r : Nat) (h : r < 2 ^ 56) (ho : op < 2 ^ 8) :
    (op * 2 ^ 56 + r) &&& 0xFF00000000000000 = op * 2 ^ 56 := by
  rw [show (0xFF00000000000000 : Nat) = 255 <<< 56 by decide, Nat.mul_comm]
  apply Nat.eq_of_testBit_eq; intro i
  rw [Nat.testBit_and, Nat.testBit_two_pow_mul_add _ h, Nat.testBit_shiftLeft, Nat.testBit_two_pow_mul]
  by_cases hi : 56 ≤ i
  · rw [if_neg (by omega)]
    by_cases hj : i - 56 < 8
    · rw [show (255 : Nat) = 2 ^ 8 - 1 by norm_num, Nat.testBit_two_pow_sub_one]; simp [hi, hj]
    · have : op.testBit (i - 56) = false :=
        Nat.testBit_eq_false_of_lt (lt_of_lt_of_le ho (Nat.pow_le_pow_right (by norm_num) (by omega)))
      simp [this]
  · simp [hi]

end Sys2Proof
end

