-- ==== Sys2Proof/Laws/State.lean ====
section
/-! SUPPORT. The state's small lemmas: for every named update, what each field holds after it. All are true by the
definition of the update, so that no later proof unfolds one. -/

namespace Sys2Proof.Machine

variable (s : State)

/-! ### setIntrefEn -/

@[simp] theorem State.setIntrefEn_cfg (v : Bool) : (s.setIntrefEn v).cfg = s.cfg := rfl
@[simp] theorem State.setIntrefEn_fr (v : Bool) : (s.setIntrefEn v).fr = s.fr := rfl
@[simp] theorem State.setIntrefEn_vref (v : Bool) : (s.setIntrefEn v).vref = s.vref := rfl
@[simp] theorem State.setIntrefEn_intrefEn (v : Bool) : (s.setIntrefEn v).intrefEn = v := rfl
@[simp] theorem State.setIntrefEn_pdMode (v : Bool) : (s.setIntrefEn v).pdMode = s.pdMode := rfl
@[simp] theorem State.setIntrefEn_ldacMode (v : Bool) : (s.setIntrefEn v).ldacMode = s.ldacMode := rfl
@[simp] theorem State.setIntrefEn_syncAtt (v : Bool) : (s.setIntrefEn v).syncAtt = s.syncAtt := rfl
@[simp] theorem State.setIntrefEn_clrAtt (v : Bool) : (s.setIntrefEn v).clrAtt = s.clrAtt := rfl
@[simp] theorem State.setIntrefEn_lastFrame (v : Bool) : (s.setIntrefEn v).lastFrame = s.lastFrame := rfl
@[simp] theorem State.setIntrefEn_fault (v : Bool) : (s.setIntrefEn v).fault = s.fault := rfl
@[simp] theorem State.setIntrefEn_chA (v : Bool) : (s.setIntrefEn v).chA = s.chA := rfl
@[simp] theorem State.setIntrefEn_chB (v : Bool) : (s.setIntrefEn v).chB = s.chB := rfl
@[simp] theorem State.setIntrefEn_oscs (v : Bool) : (s.setIntrefEn v).oscs = s.oscs := rfl
@[simp] theorem State.setIntrefEn_evlog (v : Bool) : (s.setIntrefEn v).evlog = s.evlog := rfl
@[simp] theorem State.setIntrefEn_pc (v : Bool) : (s.setIntrefEn v).pc = s.pc := rfl
@[simp] theorem State.setIntrefEn_resp (v : Bool) : (s.setIntrefEn v).resp = s.resp := rfl
@[simp] theorem State.setIntrefEn_stream (v : Bool) : (s.setIntrefEn v).stream = s.stream := rfl
@[simp] theorem State.setIntrefEn_inputs (v : Bool) : (s.setIntrefEn v).inputs = s.inputs := rfl
@[simp] theorem State.setIntrefEn_bus (v : Bool) : (s.setIntrefEn v).bus = s.bus := rfl
@[simp] theorem State.setIntrefEn_busDrawn (v : Bool) : (s.setIntrefEn v).busDrawn = s.busDrawn := rfl

/-! ### setSyncAtt -/

@[simp] theorem State.setSyncAtt_cfg (v : Bool) : (s.setSyncAtt v).cfg = s.cfg := rfl
@[simp] theorem State.setSyncAtt_fr (v : Bool) : (s.setSyncAtt v).fr = s.fr := rfl
@[simp] theorem State.setSyncAtt_vref (v : Bool) : (s.setSyncAtt v).vref = s.vref := rfl
@[simp] theorem State.setSyncAtt_intrefEn (v : Bool) : (s.setSyncAtt v).intrefEn = s.intrefEn := rfl
@[simp] theorem State.setSyncAtt_pdMode (v : Bool) : (s.setSyncAtt v).pdMode = s.pdMode := rfl
@[simp] theorem State.setSyncAtt_ldacMode (v : Bool) : (s.setSyncAtt v).ldacMode = s.ldacMode := rfl
@[simp] theorem State.setSyncAtt_syncAtt (v : Bool) : (s.setSyncAtt v).syncAtt = v := rfl
@[simp] theorem State.setSyncAtt_clrAtt (v : Bool) : (s.setSyncAtt v).clrAtt = s.clrAtt := rfl
@[simp] theorem State.setSyncAtt_lastFrame (v : Bool) : (s.setSyncAtt v).lastFrame = s.lastFrame := rfl
@[simp] theorem State.setSyncAtt_fault (v : Bool) : (s.setSyncAtt v).fault = s.fault := rfl
@[simp] theorem State.setSyncAtt_chA (v : Bool) : (s.setSyncAtt v).chA = s.chA := rfl
@[simp] theorem State.setSyncAtt_chB (v : Bool) : (s.setSyncAtt v).chB = s.chB := rfl
@[simp] theorem State.setSyncAtt_oscs (v : Bool) : (s.setSyncAtt v).oscs = s.oscs := rfl
@[simp] theorem State.setSyncAtt_evlog (v : Bool) : (s.setSyncAtt v).evlog = s.evlog := rfl
@[simp] theorem State.setSyncAtt_pc (v : Bool) : (s.setSyncAtt v).pc = s.pc := rfl
@[simp] theorem State.setSyncAtt_resp (v : Bool) : (s.setSyncAtt v).resp = s.resp := rfl
@[simp] theorem State.setSyncAtt_stream (v : Bool) : (s.setSyncAtt v).stream = s.stream := rfl
@[simp] theorem State.setSyncAtt_inputs (v : Bool) : (s.setSyncAtt v).inputs = s.inputs := rfl
@[simp] theorem State.setSyncAtt_bus (v : Bool) : (s.setSyncAtt v).bus = s.bus := rfl
@[simp] theorem State.setSyncAtt_busDrawn (v : Bool) : (s.setSyncAtt v).busDrawn = s.busDrawn := rfl

/-! ### setClrAtt -/

@[simp] theorem State.setClrAtt_cfg (v : Bool) : (s.setClrAtt v).cfg = s.cfg := rfl
@[simp] theorem State.setClrAtt_fr (v : Bool) : (s.setClrAtt v).fr = s.fr := rfl
@[simp] theorem State.setClrAtt_vref (v : Bool) : (s.setClrAtt v).vref = s.vref := rfl
@[simp] theorem State.setClrAtt_intrefEn (v : Bool) : (s.setClrAtt v).intrefEn = s.intrefEn := rfl
@[simp] theorem State.setClrAtt_pdMode (v : Bool) : (s.setClrAtt v).pdMode = s.pdMode := rfl
@[simp] theorem State.setClrAtt_ldacMode (v : Bool) : (s.setClrAtt v).ldacMode = s.ldacMode := rfl
@[simp] theorem State.setClrAtt_syncAtt (v : Bool) : (s.setClrAtt v).syncAtt = s.syncAtt := rfl
@[simp] theorem State.setClrAtt_clrAtt (v : Bool) : (s.setClrAtt v).clrAtt = v := rfl
@[simp] theorem State.setClrAtt_lastFrame (v : Bool) : (s.setClrAtt v).lastFrame = s.lastFrame := rfl
@[simp] theorem State.setClrAtt_fault (v : Bool) : (s.setClrAtt v).fault = s.fault := rfl
@[simp] theorem State.setClrAtt_chA (v : Bool) : (s.setClrAtt v).chA = s.chA := rfl
@[simp] theorem State.setClrAtt_chB (v : Bool) : (s.setClrAtt v).chB = s.chB := rfl
@[simp] theorem State.setClrAtt_oscs (v : Bool) : (s.setClrAtt v).oscs = s.oscs := rfl
@[simp] theorem State.setClrAtt_evlog (v : Bool) : (s.setClrAtt v).evlog = s.evlog := rfl
@[simp] theorem State.setClrAtt_pc (v : Bool) : (s.setClrAtt v).pc = s.pc := rfl
@[simp] theorem State.setClrAtt_resp (v : Bool) : (s.setClrAtt v).resp = s.resp := rfl
@[simp] theorem State.setClrAtt_stream (v : Bool) : (s.setClrAtt v).stream = s.stream := rfl
@[simp] theorem State.setClrAtt_inputs (v : Bool) : (s.setClrAtt v).inputs = s.inputs := rfl
@[simp] theorem State.setClrAtt_bus (v : Bool) : (s.setClrAtt v).bus = s.bus := rfl
@[simp] theorem State.setClrAtt_busDrawn (v : Bool) : (s.setClrAtt v).busDrawn = s.busDrawn := rfl

/-! ### setPdMode -/

@[simp] theorem State.setPdMode_cfg (m : BitVec 2) : (s.setPdMode m).cfg = s.cfg := rfl
@[simp] theorem State.setPdMode_fr (m : BitVec 2) : (s.setPdMode m).fr = s.fr := rfl
@[simp] theorem State.setPdMode_vref (m : BitVec 2) : (s.setPdMode m).vref = s.vref := rfl
@[simp] theorem State.setPdMode_intrefEn (m : BitVec 2) : (s.setPdMode m).intrefEn = s.intrefEn := rfl
@[simp] theorem State.setPdMode_pdMode (m : BitVec 2) : (s.setPdMode m).pdMode = m := rfl
@[simp] theorem State.setPdMode_ldacMode (m : BitVec 2) : (s.setPdMode m).ldacMode = s.ldacMode := rfl
@[simp] theorem State.setPdMode_syncAtt (m : BitVec 2) : (s.setPdMode m).syncAtt = s.syncAtt := rfl
@[simp] theorem State.setPdMode_clrAtt (m : BitVec 2) : (s.setPdMode m).clrAtt = s.clrAtt := rfl
@[simp] theorem State.setPdMode_lastFrame (m : BitVec 2) : (s.setPdMode m).lastFrame = s.lastFrame := rfl
@[simp] theorem State.setPdMode_fault (m : BitVec 2) : (s.setPdMode m).fault = s.fault := rfl
@[simp] theorem State.setPdMode_chA (m : BitVec 2) : (s.setPdMode m).chA = s.chA := rfl
@[simp] theorem State.setPdMode_chB (m : BitVec 2) : (s.setPdMode m).chB = s.chB := rfl
@[simp] theorem State.setPdMode_oscs (m : BitVec 2) : (s.setPdMode m).oscs = s.oscs := rfl
@[simp] theorem State.setPdMode_evlog (m : BitVec 2) : (s.setPdMode m).evlog = s.evlog := rfl
@[simp] theorem State.setPdMode_pc (m : BitVec 2) : (s.setPdMode m).pc = s.pc := rfl
@[simp] theorem State.setPdMode_resp (m : BitVec 2) : (s.setPdMode m).resp = s.resp := rfl
@[simp] theorem State.setPdMode_stream (m : BitVec 2) : (s.setPdMode m).stream = s.stream := rfl
@[simp] theorem State.setPdMode_inputs (m : BitVec 2) : (s.setPdMode m).inputs = s.inputs := rfl
@[simp] theorem State.setPdMode_bus (m : BitVec 2) : (s.setPdMode m).bus = s.bus := rfl
@[simp] theorem State.setPdMode_busDrawn (m : BitVec 2) : (s.setPdMode m).busDrawn = s.busDrawn := rfl

/-! ### setFr -/

@[simp] theorem State.setFr_cfg (f : Frame) : (s.setFr f).cfg = s.cfg := rfl
@[simp] theorem State.setFr_fr (f : Frame) : (s.setFr f).fr = f := rfl
@[simp] theorem State.setFr_vref (f : Frame) : (s.setFr f).vref = s.vref := rfl
@[simp] theorem State.setFr_intrefEn (f : Frame) : (s.setFr f).intrefEn = s.intrefEn := rfl
@[simp] theorem State.setFr_pdMode (f : Frame) : (s.setFr f).pdMode = s.pdMode := rfl
@[simp] theorem State.setFr_ldacMode (f : Frame) : (s.setFr f).ldacMode = s.ldacMode := rfl
@[simp] theorem State.setFr_syncAtt (f : Frame) : (s.setFr f).syncAtt = s.syncAtt := rfl
@[simp] theorem State.setFr_clrAtt (f : Frame) : (s.setFr f).clrAtt = s.clrAtt := rfl
@[simp] theorem State.setFr_lastFrame (f : Frame) : (s.setFr f).lastFrame = s.lastFrame := rfl
@[simp] theorem State.setFr_fault (f : Frame) : (s.setFr f).fault = s.fault := rfl
@[simp] theorem State.setFr_chA (f : Frame) : (s.setFr f).chA = s.chA := rfl
@[simp] theorem State.setFr_chB (f : Frame) : (s.setFr f).chB = s.chB := rfl
@[simp] theorem State.setFr_oscs (f : Frame) : (s.setFr f).oscs = s.oscs := rfl
@[simp] theorem State.setFr_evlog (f : Frame) : (s.setFr f).evlog = s.evlog := rfl
@[simp] theorem State.setFr_pc (f : Frame) : (s.setFr f).pc = s.pc := rfl
@[simp] theorem State.setFr_resp (f : Frame) : (s.setFr f).resp = s.resp := rfl
@[simp] theorem State.setFr_stream (f : Frame) : (s.setFr f).stream = s.stream := rfl
@[simp] theorem State.setFr_inputs (f : Frame) : (s.setFr f).inputs = s.inputs := rfl
@[simp] theorem State.setFr_bus (f : Frame) : (s.setFr f).bus = s.bus := rfl
@[simp] theorem State.setFr_busDrawn (f : Frame) : (s.setFr f).busDrawn = s.busDrawn := rfl

/-! ### setOsc -/

@[simp] theorem State.setOsc_cfg (o : Nat) (osc : Osc) : (s.setOsc o osc).cfg = s.cfg := rfl
@[simp] theorem State.setOsc_fr (o : Nat) (osc : Osc) : (s.setOsc o osc).fr = s.fr := rfl
@[simp] theorem State.setOsc_vref (o : Nat) (osc : Osc) : (s.setOsc o osc).vref = s.vref := rfl
@[simp] theorem State.setOsc_intrefEn (o : Nat) (osc : Osc) : (s.setOsc o osc).intrefEn = s.intrefEn := rfl
@[simp] theorem State.setOsc_pdMode (o : Nat) (osc : Osc) : (s.setOsc o osc).pdMode = s.pdMode := rfl
@[simp] theorem State.setOsc_ldacMode (o : Nat) (osc : Osc) : (s.setOsc o osc).ldacMode = s.ldacMode := rfl
@[simp] theorem State.setOsc_syncAtt (o : Nat) (osc : Osc) : (s.setOsc o osc).syncAtt = s.syncAtt := rfl
@[simp] theorem State.setOsc_clrAtt (o : Nat) (osc : Osc) : (s.setOsc o osc).clrAtt = s.clrAtt := rfl
@[simp] theorem State.setOsc_lastFrame (o : Nat) (osc : Osc) : (s.setOsc o osc).lastFrame = s.lastFrame := rfl
@[simp] theorem State.setOsc_fault (o : Nat) (osc : Osc) : (s.setOsc o osc).fault = s.fault := rfl
@[simp] theorem State.setOsc_chA (o : Nat) (osc : Osc) : (s.setOsc o osc).chA = s.chA := rfl
@[simp] theorem State.setOsc_chB (o : Nat) (osc : Osc) : (s.setOsc o osc).chB = s.chB := rfl
@[simp] theorem State.setOsc_oscs (o : Nat) (osc : Osc) : (s.setOsc o osc).oscs = s.oscs.set o osc := rfl
@[simp] theorem State.setOsc_evlog (o : Nat) (osc : Osc) : (s.setOsc o osc).evlog = s.evlog := rfl
@[simp] theorem State.setOsc_pc (o : Nat) (osc : Osc) : (s.setOsc o osc).pc = s.pc := rfl
@[simp] theorem State.setOsc_resp (o : Nat) (osc : Osc) : (s.setOsc o osc).resp = s.resp := rfl
@[simp] theorem State.setOsc_stream (o : Nat) (osc : Osc) : (s.setOsc o osc).stream = s.stream := rfl
@[simp] theorem State.setOsc_inputs (o : Nat) (osc : Osc) : (s.setOsc o osc).inputs = s.inputs := rfl
@[simp] theorem State.setOsc_bus (o : Nat) (osc : Osc) : (s.setOsc o osc).bus = s.bus := rfl
@[simp] theorem State.setOsc_busDrawn (o : Nat) (osc : Osc) : (s.setOsc o osc).busDrawn = s.busDrawn := rfl

/-! ### respond -/

@[simp] theorem State.respond_cfg (status : Status) (value : RespValue) : (s.respond status value).cfg = s.cfg := rfl
@[simp] theorem State.respond_fr (status : Status) (value : RespValue) : (s.respond status value).fr = s.fr := rfl
@[simp] theorem State.respond_vref (status : Status) (value : RespValue) : (s.respond status value).vref = s.vref := rfl
@[simp] theorem State.respond_intrefEn (status : Status) (value : RespValue) : (s.respond status value).intrefEn = s.intrefEn := rfl
@[simp] theorem State.respond_pdMode (status : Status) (value : RespValue) : (s.respond status value).pdMode = s.pdMode := rfl
@[simp] theorem State.respond_ldacMode (status : Status) (value : RespValue) : (s.respond status value).ldacMode = s.ldacMode := rfl
@[simp] theorem State.respond_syncAtt (status : Status) (value : RespValue) : (s.respond status value).syncAtt = s.syncAtt := rfl
@[simp] theorem State.respond_clrAtt (status : Status) (value : RespValue) : (s.respond status value).clrAtt = s.clrAtt := rfl
@[simp] theorem State.respond_lastFrame (status : Status) (value : RespValue) : (s.respond status value).lastFrame = s.lastFrame := rfl
@[simp] theorem State.respond_fault (status : Status) (value : RespValue) : (s.respond status value).fault = s.fault := rfl
@[simp] theorem State.respond_chA (status : Status) (value : RespValue) : (s.respond status value).chA = s.chA := rfl
@[simp] theorem State.respond_chB (status : Status) (value : RespValue) : (s.respond status value).chB = s.chB := rfl
@[simp] theorem State.respond_oscs (status : Status) (value : RespValue) : (s.respond status value).oscs = s.oscs := rfl
@[simp] theorem State.respond_evlog (status : Status) (value : RespValue) : (s.respond status value).evlog = s.evlog := rfl
@[simp] theorem State.respond_pc (status : Status) (value : RespValue) : (s.respond status value).pc = s.pc + 1 := rfl
@[simp] theorem State.respond_resp (status : Status) (value : RespValue) : (s.respond status value).resp = some ⟨status, value⟩ := rfl
@[simp] theorem State.respond_stream (status : Status) (value : RespValue) : (s.respond status value).stream = s.stream := rfl
@[simp] theorem State.respond_inputs (status : Status) (value : RespValue) : (s.respond status value).inputs = s.inputs := rfl
@[simp] theorem State.respond_bus (status : Status) (value : RespValue) : (s.respond status value).bus = s.bus := rfl
@[simp] theorem State.respond_busDrawn (status : Status) (value : RespValue) : (s.respond status value).busDrawn = s.busDrawn := rfl

/-! ### afterDraw -/

@[simp] theorem State.afterDraw_cfg : s.afterDraw.cfg = s.cfg := rfl
@[simp] theorem State.afterDraw_fr : s.afterDraw.fr = s.fr := rfl
@[simp] theorem State.afterDraw_vref : s.afterDraw.vref = s.vref := rfl
@[simp] theorem State.afterDraw_intrefEn : s.afterDraw.intrefEn = s.intrefEn := rfl
@[simp] theorem State.afterDraw_pdMode : s.afterDraw.pdMode = s.pdMode := rfl
@[simp] theorem State.afterDraw_ldacMode : s.afterDraw.ldacMode = s.ldacMode := rfl
@[simp] theorem State.afterDraw_syncAtt : s.afterDraw.syncAtt = s.syncAtt := rfl
@[simp] theorem State.afterDraw_clrAtt : s.afterDraw.clrAtt = s.clrAtt := rfl
@[simp] theorem State.afterDraw_lastFrame : s.afterDraw.lastFrame = s.lastFrame := rfl
@[simp] theorem State.afterDraw_fault : s.afterDraw.fault = s.fault := rfl
@[simp] theorem State.afterDraw_chA : s.afterDraw.chA = s.chA := rfl
@[simp] theorem State.afterDraw_chB : s.afterDraw.chB = s.chB := rfl
@[simp] theorem State.afterDraw_oscs : s.afterDraw.oscs = s.oscs := rfl
@[simp] theorem State.afterDraw_evlog : s.afterDraw.evlog = s.evlog := rfl
@[simp] theorem State.afterDraw_pc : s.afterDraw.pc = s.pc := rfl
@[simp] theorem State.afterDraw_resp : s.afterDraw.resp = s.resp := rfl
@[simp] theorem State.afterDraw_stream : s.afterDraw.stream = s.stream := rfl
@[simp] theorem State.afterDraw_inputs : s.afterDraw.inputs = s.inputs := rfl
@[simp] theorem State.afterDraw_bus : s.afterDraw.bus = s.bus.tail := rfl
@[simp] theorem State.afterDraw_busDrawn : s.afterDraw.busDrawn = s.busDrawn + 1 := rfl

/-! ### emit -/

@[simp] theorem State.emit_cfg (b0 b1 b2 : Byte) : (s.emit b0 b1 b2).cfg = s.cfg := rfl
@[simp] theorem State.emit_fr (b0 b1 b2 : Byte) : (s.emit b0 b1 b2).fr = s.fr := rfl
@[simp] theorem State.emit_vref (b0 b1 b2 : Byte) : (s.emit b0 b1 b2).vref = s.vref := rfl
@[simp] theorem State.emit_intrefEn (b0 b1 b2 : Byte) : (s.emit b0 b1 b2).intrefEn = s.intrefEn := rfl
@[simp] theorem State.emit_pdMode (b0 b1 b2 : Byte) : (s.emit b0 b1 b2).pdMode = s.pdMode := rfl
@[simp] theorem State.emit_ldacMode (b0 b1 b2 : Byte) : (s.emit b0 b1 b2).ldacMode = s.ldacMode := rfl
@[simp] theorem State.emit_syncAtt (b0 b1 b2 : Byte) : (s.emit b0 b1 b2).syncAtt = s.syncAtt := rfl
@[simp] theorem State.emit_clrAtt (b0 b1 b2 : Byte) : (s.emit b0 b1 b2).clrAtt = s.clrAtt := rfl
@[simp] theorem State.emit_lastFrame (b0 b1 b2 : Byte) : (s.emit b0 b1 b2).lastFrame = frameValue b0 b1 b2 := rfl
@[simp] theorem State.emit_fault (b0 b1 b2 : Byte) : (s.emit b0 b1 b2).fault = s.fault := rfl
@[simp] theorem State.emit_chA (b0 b1 b2 : Byte) : (s.emit b0 b1 b2).chA = s.chA := rfl
@[simp] theorem State.emit_chB (b0 b1 b2 : Byte) : (s.emit b0 b1 b2).chB = s.chB := rfl
@[simp] theorem State.emit_oscs (b0 b1 b2 : Byte) : (s.emit b0 b1 b2).oscs = s.oscs := rfl
@[simp] theorem State.emit_evlog (b0 b1 b2 : Byte) : (s.emit b0 b1 b2).evlog = s.evlog ++ [.frame b0 b1 b2] := rfl
@[simp] theorem State.emit_pc (b0 b1 b2 : Byte) : (s.emit b0 b1 b2).pc = s.pc := rfl
@[simp] theorem State.emit_resp (b0 b1 b2 : Byte) : (s.emit b0 b1 b2).resp = s.resp := rfl
@[simp] theorem State.emit_stream (b0 b1 b2 : Byte) : (s.emit b0 b1 b2).stream = s.stream := rfl
@[simp] theorem State.emit_inputs (b0 b1 b2 : Byte) : (s.emit b0 b1 b2).inputs = s.inputs := rfl
@[simp] theorem State.emit_bus (b0 b1 b2 : Byte) : (s.emit b0 b1 b2).bus = s.bus := rfl
@[simp] theorem State.emit_busDrawn (b0 b1 b2 : Byte) : (s.emit b0 b1 b2).busDrawn = s.busDrawn := rfl

/-! ### pulse -/

@[simp] theorem State.pulse_cfg (line : Line) : (s.pulse line).cfg = s.cfg := rfl
@[simp] theorem State.pulse_fr (line : Line) : (s.pulse line).fr = s.fr := rfl
@[simp] theorem State.pulse_vref (line : Line) : (s.pulse line).vref = s.vref := rfl
@[simp] theorem State.pulse_intrefEn (line : Line) : (s.pulse line).intrefEn = s.intrefEn := rfl
@[simp] theorem State.pulse_pdMode (line : Line) : (s.pulse line).pdMode = s.pdMode := rfl
@[simp] theorem State.pulse_ldacMode (line : Line) : (s.pulse line).ldacMode = s.ldacMode := rfl
@[simp] theorem State.pulse_syncAtt (line : Line) : (s.pulse line).syncAtt = s.syncAtt := rfl
@[simp] theorem State.pulse_clrAtt (line : Line) : (s.pulse line).clrAtt = s.clrAtt := rfl
@[simp] theorem State.pulse_lastFrame (line : Line) : (s.pulse line).lastFrame = s.lastFrame := rfl
@[simp] theorem State.pulse_fault (line : Line) : (s.pulse line).fault = s.fault := rfl
@[simp] theorem State.pulse_chA (line : Line) : (s.pulse line).chA = s.chA := rfl
@[simp] theorem State.pulse_chB (line : Line) : (s.pulse line).chB = s.chB := rfl
@[simp] theorem State.pulse_oscs (line : Line) : (s.pulse line).oscs = s.oscs := rfl
@[simp] theorem State.pulse_evlog (line : Line) : (s.pulse line).evlog = s.evlog ++ [.pulse line] := rfl
@[simp] theorem State.pulse_pc (line : Line) : (s.pulse line).pc = s.pc := rfl
@[simp] theorem State.pulse_resp (line : Line) : (s.pulse line).resp = s.resp := rfl
@[simp] theorem State.pulse_stream (line : Line) : (s.pulse line).stream = s.stream := rfl
@[simp] theorem State.pulse_inputs (line : Line) : (s.pulse line).inputs = s.inputs := rfl
@[simp] theorem State.pulse_bus (line : Line) : (s.pulse line).bus = s.bus := rfl
@[simp] theorem State.pulse_busDrawn (line : Line) : (s.pulse line).busDrawn = s.busDrawn := rfl

/-! ### sent -/

@[simp] theorem State.sent_cfg (b0 b1 b2 : Byte) : (s.sent b0 b1 b2).cfg = s.cfg := rfl
@[simp] theorem State.sent_fr (b0 b1 b2 : Byte) : (s.sent b0 b1 b2).fr = s.fr := rfl
@[simp] theorem State.sent_vref (b0 b1 b2 : Byte) : (s.sent b0 b1 b2).vref = s.vref := rfl
@[simp] theorem State.sent_intrefEn (b0 b1 b2 : Byte) : (s.sent b0 b1 b2).intrefEn = s.intrefEn := rfl
@[simp] theorem State.sent_pdMode (b0 b1 b2 : Byte) : (s.sent b0 b1 b2).pdMode = s.pdMode := rfl
@[simp] theorem State.sent_ldacMode (b0 b1 b2 : Byte) : (s.sent b0 b1 b2).ldacMode = s.ldacMode := rfl
@[simp] theorem State.sent_syncAtt (b0 b1 b2 : Byte) : (s.sent b0 b1 b2).syncAtt = s.syncAtt := rfl
@[simp] theorem State.sent_clrAtt (b0 b1 b2 : Byte) : (s.sent b0 b1 b2).clrAtt = s.clrAtt := rfl
@[simp] theorem State.sent_lastFrame (b0 b1 b2 : Byte) : (s.sent b0 b1 b2).lastFrame = b0 ++ b1 ++ b2 := rfl
@[simp] theorem State.sent_fault (b0 b1 b2 : Byte) : (s.sent b0 b1 b2).fault = s.fault := rfl
@[simp] theorem State.sent_chA (b0 b1 b2 : Byte) : (s.sent b0 b1 b2).chA = s.chA := rfl
@[simp] theorem State.sent_chB (b0 b1 b2 : Byte) : (s.sent b0 b1 b2).chB = s.chB := rfl
@[simp] theorem State.sent_oscs (b0 b1 b2 : Byte) : (s.sent b0 b1 b2).oscs = s.oscs := rfl
@[simp] theorem State.sent_evlog (b0 b1 b2 : Byte) : (s.sent b0 b1 b2).evlog = s.evlog ++ [.frame b0 b1 b2] := rfl
@[simp] theorem State.sent_pc (b0 b1 b2 : Byte) : (s.sent b0 b1 b2).pc = s.pc := rfl
@[simp] theorem State.sent_resp (b0 b1 b2 : Byte) : (s.sent b0 b1 b2).resp = s.resp := rfl
@[simp] theorem State.sent_stream (b0 b1 b2 : Byte) : (s.sent b0 b1 b2).stream = s.stream := rfl
@[simp] theorem State.sent_inputs (b0 b1 b2 : Byte) : (s.sent b0 b1 b2).inputs = s.inputs := rfl
@[simp] theorem State.sent_bus (b0 b1 b2 : Byte) : (s.sent b0 b1 b2).bus = s.bus.tail := rfl
@[simp] theorem State.sent_busDrawn (b0 b1 b2 : Byte) : (s.sent b0 b1 b2).busDrawn = s.busDrawn + 1 := rfl

/-! ### busFailed -/

@[simp] theorem State.busFailed_cfg : s.busFailed.cfg = s.cfg := rfl
@[simp] theorem State.busFailed_fr : s.busFailed.fr = s.fr := rfl
@[simp] theorem State.busFailed_vref : s.busFailed.vref = s.vref := rfl
@[simp] theorem State.busFailed_intrefEn : s.busFailed.intrefEn = s.intrefEn := rfl
@[simp] theorem State.busFailed_pdMode : s.busFailed.pdMode = s.pdMode := rfl
@[simp] theorem State.busFailed_ldacMode : s.busFailed.ldacMode = s.ldacMode := rfl
@[simp] theorem State.busFailed_syncAtt : s.busFailed.syncAtt = s.syncAtt := rfl
@[simp] theorem State.busFailed_clrAtt : s.busFailed.clrAtt = s.clrAtt := rfl
@[simp] theorem State.busFailed_lastFrame : s.busFailed.lastFrame = s.lastFrame := rfl
@[simp] theorem State.busFailed_fault : s.busFailed.fault = .bus := rfl
@[simp] theorem State.busFailed_chA : s.busFailed.chA = s.chA := rfl
@[simp] theorem State.busFailed_chB : s.busFailed.chB = s.chB := rfl
@[simp] theorem State.busFailed_oscs : s.busFailed.oscs = s.oscs := rfl
@[simp] theorem State.busFailed_evlog : s.busFailed.evlog = s.evlog := rfl
@[simp] theorem State.busFailed_pc : s.busFailed.pc = s.pc := rfl
@[simp] theorem State.busFailed_resp : s.busFailed.resp = s.resp := rfl
@[simp] theorem State.busFailed_stream : s.busFailed.stream = s.stream := rfl
@[simp] theorem State.busFailed_inputs : s.busFailed.inputs = s.inputs := rfl
@[simp] theorem State.busFailed_bus : s.busFailed.bus = s.bus.tail := rfl
@[simp] theorem State.busFailed_busDrawn : s.busFailed.busDrawn = s.busDrawn + 1 := rfl

/-! ### answered -/

@[simp] theorem State.answered_cfg (status : Status) (value : RespValue) : (s.answered status value).cfg = s.cfg := rfl
@[simp] theorem State.answered_fr (status : Status) (value : RespValue) : (s.answered status value).fr = s.fr := rfl
@[simp] theorem State.answered_vref (status : Status) (value : RespValue) : (s.answered status value).vref = s.vref := rfl
@[simp] theorem State.answered_intrefEn (status : Status) (value : RespValue) : (s.answered status value).intrefEn = s.intrefEn := rfl
@[simp] theorem State.answered_pdMode (status : Status) (value : RespValue) : (s.answered status value).pdMode = s.pdMode := rfl
@[simp] theorem State.answered_ldacMode (status : Status) (value : RespValue) : (s.answered status value).ldacMode = s.ldacMode := rfl
@[simp] theorem State.answered_syncAtt (status : Status) (value : RespValue) : (s.answered status value).syncAtt = s.syncAtt := rfl
@[simp] theorem State.answered_clrAtt (status : Status) (value : RespValue) : (s.answered status value).clrAtt = s.clrAtt := rfl
@[simp] theorem State.answered_lastFrame (status : Status) (value : RespValue) : (s.answered status value).lastFrame = s.lastFrame := rfl
@[simp] theorem State.answered_fault (status : Status) (value : RespValue) : (s.answered status value).fault = s.fault := rfl
@[simp] theorem State.answered_chA (status : Status) (value : RespValue) : (s.answered status value).chA = s.chA := rfl
@[simp] theorem State.answered_chB (status : Status) (value : RespValue) : (s.answered status value).chB = s.chB := rfl
@[simp] theorem State.answered_oscs (status : Status) (value : RespValue) : (s.answered status value).oscs = s.oscs := rfl
@[simp] theorem State.answered_evlog (status : Status) (value : RespValue) : (s.answered status value).evlog = s.evlog := rfl
@[simp] theorem State.answered_pc (status : Status) (value : RespValue) : (s.answered status value).pc = s.pc + 1 := rfl
@[simp] theorem State.answered_resp (status : Status) (value : RespValue) : (s.answered status value).resp = some ⟨status, value⟩ := rfl
@[simp] theorem State.answered_stream (status : Status) (value : RespValue) : (s.answered status value).stream = s.stream := rfl
@[simp] theorem State.answered_inputs (status : Status) (value : RespValue) : (s.answered status value).inputs = s.inputs := rfl
@[simp] theorem State.answered_bus (status : Status) (value : RespValue) : (s.answered status value).bus = s.bus := rfl
@[simp] theorem State.answered_busDrawn (status : Status) (value : RespValue) : (s.answered status value).busDrawn = s.busDrawn := rfl

/-! ### setChannel -/

@[simp] theorem State.setChannel_cfg (slot : Slot) (c : Channel) : (s.setChannel slot c).cfg = s.cfg := by
  cases slot <;> rfl
@[simp] theorem State.setChannel_fr (slot : Slot) (c : Channel) : (s.setChannel slot c).fr = s.fr := by
  cases slot <;> rfl
@[simp] theorem State.setChannel_vref (slot : Slot) (c : Channel) : (s.setChannel slot c).vref = s.vref := by
  cases slot <;> rfl
@[simp] theorem State.setChannel_intrefEn (slot : Slot) (c : Channel) : (s.setChannel slot c).intrefEn = s.intrefEn := by
  cases slot <;> rfl
@[simp] theorem State.setChannel_pdMode (slot : Slot) (c : Channel) : (s.setChannel slot c).pdMode = s.pdMode := by
  cases slot <;> rfl
@[simp] theorem State.setChannel_ldacMode (slot : Slot) (c : Channel) : (s.setChannel slot c).ldacMode = s.ldacMode := by
  cases slot <;> rfl
@[simp] theorem State.setChannel_syncAtt (slot : Slot) (c : Channel) : (s.setChannel slot c).syncAtt = s.syncAtt := by
  cases slot <;> rfl
@[simp] theorem State.setChannel_clrAtt (slot : Slot) (c : Channel) : (s.setChannel slot c).clrAtt = s.clrAtt := by
  cases slot <;> rfl
@[simp] theorem State.setChannel_lastFrame (slot : Slot) (c : Channel) : (s.setChannel slot c).lastFrame = s.lastFrame := by
  cases slot <;> rfl
@[simp] theorem State.setChannel_fault (slot : Slot) (c : Channel) : (s.setChannel slot c).fault = s.fault := by
  cases slot <;> rfl
@[simp] theorem State.setChannel_oscs (slot : Slot) (c : Channel) : (s.setChannel slot c).oscs = s.oscs := by
  cases slot <;> rfl
@[simp] theorem State.setChannel_evlog (slot : Slot) (c : Channel) : (s.setChannel slot c).evlog = s.evlog := by
  cases slot <;> rfl
@[simp] theorem State.setChannel_pc (slot : Slot) (c : Channel) : (s.setChannel slot c).pc = s.pc := by
  cases slot <;> rfl
@[simp] theorem State.setChannel_resp (slot : Slot) (c : Channel) : (s.setChannel slot c).resp = s.resp := by
  cases slot <;> rfl
@[simp] theorem State.setChannel_stream (slot : Slot) (c : Channel) : (s.setChannel slot c).stream = s.stream := by
  cases slot <;> rfl
@[simp] theorem State.setChannel_inputs (slot : Slot) (c : Channel) : (s.setChannel slot c).inputs = s.inputs := by
  cases slot <;> rfl
@[simp] theorem State.setChannel_bus (slot : Slot) (c : Channel) : (s.setChannel slot c).bus = s.bus := by
  cases slot <;> rfl
@[simp] theorem State.setChannel_busDrawn (slot : Slot) (c : Channel) : (s.setChannel slot c).busDrawn = s.busDrawn := by
  cases slot <;> rfl
@[simp] theorem State.setChannel_channel_self (slot : Slot) (c : Channel) : (s.setChannel slot c).channel slot = c := by
  cases slot <;> rfl
theorem State.setChannel_channel_other (slot : Slot) (c : Channel) (other : Slot) (h : other ≠ slot) :
    (s.setChannel slot c).channel other = s.channel other := by
  cases slot <;> cases other <;> first | rfl | exact absurd rfl h
@[simp] theorem State.setChannel_chanId (slot : Slot) (c : Channel) (other : Slot) : (s.setChannel slot c).chanId other = s.chanId other := by
  cases slot <;> cases other <;> rfl

/-! ### setEn -/

@[simp] theorem State.setEn_cfg (slot : Slot) (v : Bool) : (s.setEn slot v).cfg = s.cfg := by
  cases slot <;> rfl
@[simp] theorem State.setEn_fr (slot : Slot) (v : Bool) : (s.setEn slot v).fr = s.fr := by
  cases slot <;> rfl
@[simp] theorem State.setEn_vref (slot : Slot) (v : Bool) : (s.setEn slot v).vref = s.vref := by
  cases slot <;> rfl
@[simp] theorem State.setEn_intrefEn (slot : Slot) (v : Bool) : (s.setEn slot v).intrefEn = s.intrefEn := by
  cases slot <;> rfl
@[simp] theorem State.setEn_pdMode (slot : Slot) (v : Bool) : (s.setEn slot v).pdMode = s.pdMode := by
  cases slot <;> rfl
@[simp] theorem State.setEn_ldacMode (slot : Slot) (v : Bool) : (s.setEn slot v).ldacMode = s.ldacMode := by
  cases slot <;> rfl
@[simp] theorem State.setEn_syncAtt (slot : Slot) (v : Bool) : (s.setEn slot v).syncAtt = s.syncAtt := by
  cases slot <;> rfl
@[simp] theorem State.setEn_clrAtt (slot : Slot) (v : Bool) : (s.setEn slot v).clrAtt = s.clrAtt := by
  cases slot <;> rfl
@[simp] theorem State.setEn_lastFrame (slot : Slot) (v : Bool) : (s.setEn slot v).lastFrame = s.lastFrame := by
  cases slot <;> rfl
@[simp] theorem State.setEn_fault (slot : Slot) (v : Bool) : (s.setEn slot v).fault = s.fault := by
  cases slot <;> rfl
@[simp] theorem State.setEn_oscs (slot : Slot) (v : Bool) : (s.setEn slot v).oscs = s.oscs := by
  cases slot <;> rfl
@[simp] theorem State.setEn_evlog (slot : Slot) (v : Bool) : (s.setEn slot v).evlog = s.evlog := by
  cases slot <;> rfl
@[simp] theorem State.setEn_pc (slot : Slot) (v : Bool) : (s.setEn slot v).pc = s.pc := by
  cases slot <;> rfl
@[simp] theorem State.setEn_resp (slot : Slot) (v : Bool) : (s.setEn slot v).resp = s.resp := by
  cases slot <;> rfl
@[simp] theorem State.setEn_stream (slot : Slot) (v : Bool) : (s.setEn slot v).stream = s.stream := by
  cases slot <;> rfl
@[simp] theorem State.setEn_inputs (slot : Slot) (v : Bool) : (s.setEn slot v).inputs = s.inputs := by
  cases slot <;> rfl
@[simp] theorem State.setEn_bus (slot : Slot) (v : Bool) : (s.setEn slot v).bus = s.bus := by
  cases slot <;> rfl
@[simp] theorem State.setEn_busDrawn (slot : Slot) (v : Bool) : (s.setEn slot v).busDrawn = s.busDrawn := by
  cases slot <;> rfl
@[simp] theorem State.setEn_channel_self (slot : Slot) (v : Bool) : (s.setEn slot v).channel slot = { s.channel slot with en := v } := by
  cases slot <;> rfl
theorem State.setEn_channel_other (slot : Slot) (v : Bool) (other : Slot) (h : other ≠ slot) :
    (s.setEn slot v).channel other = s.channel other := by
  cases slot <;> cases other <;> first | rfl | exact absurd rfl h
@[simp] theorem State.setEn_chanId (slot : Slot) (v : Bool) (other : Slot) : (s.setEn slot v).chanId other = s.chanId other := by
  cases slot <;> cases other <;> rfl

/-! ### setGain -/

@[simp] theorem State.setGain_cfg (slot : Slot) (g : Gain) : (s.setGain slot g).cfg = s.cfg := by
  cases slot <;> rfl
@[simp] theorem State.setGain_fr (slot : Slot) (g : Gain) : (s.setGain slot g).fr = s.fr := by
  cases slot <;> rfl
@[simp] theorem State.setGain_vref (slot : Slot) (g : Gain) : (s.setGain slot g).vref = s.vref := by
  cases slot <;> rfl
@[simp] theorem State.setGain_intrefEn (slot : Slot) (g : Gain) : (s.setGain slot g).intrefEn = s.intrefEn := by
  cases slot <;> rfl
@[simp] theorem State.setGain_pdMode (slot : Slot) (g : Gain) : (s.setGain slot g).pdMode = s.pdMode := by
  cases slot <;> rfl
@[simp] theorem State.setGain_ldacMode (slot : Slot) (g : Gain) : (s.setGain slot g).ldacMode = s.ldacMode := by
  cases slot <;> rfl
@[simp] theorem State.setGain_syncAtt (slot : Slot) (g : Gain) : (s.setGain slot g).syncAtt = s.syncAtt := by
  cases slot <;> rfl
@[simp] theorem State.setGain_clrAtt (slot : Slot) (g : Gain) : (s.setGain slot g).clrAtt = s.clrAtt := by
  cases slot <;> rfl
@[simp] theorem State.setGain_lastFrame (slot : Slot) (g : Gain) : (s.setGain slot g).lastFrame = s.lastFrame := by
  cases slot <;> rfl
@[simp] theorem State.setGain_fault (slot : Slot) (g : Gain) : (s.setGain slot g).fault = s.fault := by
  cases slot <;> rfl
@[simp] theorem State.setGain_oscs (slot : Slot) (g : Gain) : (s.setGain slot g).oscs = s.oscs := by
  cases slot <;> rfl
@[simp] theorem State.setGain_evlog (slot : Slot) (g : Gain) : (s.setGain slot g).evlog = s.evlog := by
  cases slot <;> rfl
@[simp] theorem State.setGain_pc (slot : Slot) (g : Gain) : (s.setGain slot g).pc = s.pc := by
  cases slot <;> rfl
@[simp] theorem State.setGain_resp (slot : Slot) (g : Gain) : (s.setGain slot g).resp = s.resp := by
  cases slot <;> rfl
@[simp] theorem State.setGain_stream (slot : Slot) (g : Gain) : (s.setGain slot g).stream = s.stream := by
  cases slot <;> rfl
@[simp] theorem State.setGain_inputs (slot : Slot) (g : Gain) : (s.setGain slot g).inputs = s.inputs := by
  cases slot <;> rfl
@[simp] theorem State.setGain_bus (slot : Slot) (g : Gain) : (s.setGain slot g).bus = s.bus := by
  cases slot <;> rfl
@[simp] theorem State.setGain_busDrawn (slot : Slot) (g : Gain) : (s.setGain slot g).busDrawn = s.busDrawn := by
  cases slot <;> rfl
@[simp] theorem State.setGain_channel_self (slot : Slot) (g : Gain) : (s.setGain slot g).channel slot = { s.channel slot with gain := g } := by
  cases slot <;> rfl
theorem State.setGain_channel_other (slot : Slot) (g : Gain) (other : Slot) (h : other ≠ slot) :
    (s.setGain slot g).channel other = s.channel other := by
  cases slot <;> cases other <;> first | rfl | exact absurd rfl h
@[simp] theorem State.setGain_chanId (slot : Slot) (g : Gain) (other : Slot) : (s.setGain slot g).chanId other = s.chanId other := by
  cases slot <;> cases other <;> rfl

/-! ### raise -/

@[simp] theorem State.raise_cfg (code : FaultCode) : (s.raise code).cfg = s.cfg := by
  unfold State.raise; split <;> rfl
@[simp] theorem State.raise_fr (code : FaultCode) : (s.raise code).fr = s.fr := by
  unfold State.raise; split <;> rfl
@[simp] theorem State.raise_vref (code : FaultCode) : (s.raise code).vref = s.vref := by
  unfold State.raise; split <;> rfl
@[simp] theorem State.raise_intrefEn (code : FaultCode) : (s.raise code).intrefEn = s.intrefEn := by
  unfold State.raise; split <;> rfl
@[simp] theorem State.raise_pdMode (code : FaultCode) : (s.raise code).pdMode = s.pdMode := by
  unfold State.raise; split <;> rfl
@[simp] theorem State.raise_ldacMode (code : FaultCode) : (s.raise code).ldacMode = s.ldacMode := by
  unfold State.raise; split <;> rfl
@[simp] theorem State.raise_syncAtt (code : FaultCode) : (s.raise code).syncAtt = s.syncAtt := by
  unfold State.raise; split <;> rfl
@[simp] theorem State.raise_clrAtt (code : FaultCode) : (s.raise code).clrAtt = s.clrAtt := by
  unfold State.raise; split <;> rfl
@[simp] theorem State.raise_lastFrame (code : FaultCode) : (s.raise code).lastFrame = s.lastFrame := by
  unfold State.raise; split <;> rfl
@[simp] theorem State.raise_chA (code : FaultCode) : (s.raise code).chA = s.chA := by
  unfold State.raise; split <;> rfl
@[simp] theorem State.raise_chB (code : FaultCode) : (s.raise code).chB = s.chB := by
  unfold State.raise; split <;> rfl
@[simp] theorem State.raise_oscs (code : FaultCode) : (s.raise code).oscs = s.oscs := by
  unfold State.raise; split <;> rfl
@[simp] theorem State.raise_evlog (code : FaultCode) : (s.raise code).evlog = s.evlog := by
  unfold State.raise; split <;> rfl
@[simp] theorem State.raise_pc (code : FaultCode) : (s.raise code).pc = s.pc := by
  unfold State.raise; split <;> rfl
@[simp] theorem State.raise_resp (code : FaultCode) : (s.raise code).resp = s.resp := by
  unfold State.raise; split <;> rfl
@[simp] theorem State.raise_stream (code : FaultCode) : (s.raise code).stream = s.stream := by
  unfold State.raise; split <;> rfl
@[simp] theorem State.raise_inputs (code : FaultCode) : (s.raise code).inputs = s.inputs := by
  unfold State.raise; split <;> rfl
@[simp] theorem State.raise_bus (code : FaultCode) : (s.raise code).bus = s.bus := by
  unfold State.raise; split <;> rfl
@[simp] theorem State.raise_busDrawn (code : FaultCode) : (s.raise code).busDrawn = s.busDrawn := by
  unfold State.raise; split <;> rfl

/-- Outside the fault state a raise writes the code and nothing else (R266). -/
theorem State.raise_of_none (code : FaultCode) (h : s.fault = .none) : s.raise code = { s with fault := code } := by
  simp [State.raise, h]

/-- `FAULT` keeps its first code (R268). -/
theorem State.raise_of_fault (code : FaultCode) (h : s.fault ≠ .none) : s.raise code = s := by
  simp [State.raise, h]

/-! ### The identity of a slot and the draw read only fields no update of a step writes -/

@[simp] theorem State.emit_chanId (b0 b1 b2 : Byte) (slot : Slot) :
    (s.emit b0 b1 b2).chanId slot = s.chanId slot := by cases slot <;> rfl

@[simp] theorem State.afterDraw_chanId (slot : Slot) : s.afterDraw.chanId slot = s.chanId slot := by
  cases slot <;> rfl

@[simp] theorem State.sent_chanId (b0 b1 b2 : Byte) (slot : Slot) :
    (s.sent b0 b1 b2).chanId slot = s.chanId slot := by cases slot <;> rfl

@[simp] theorem State.setOsc_chanId (o : Nat) (osc : Osc) (slot : Slot) :
    (s.setOsc o osc).chanId slot = s.chanId slot := by cases slot <;> rfl

@[simp] theorem State.ok_eq (value : RespValue) : s.ok value = s.answered .ok value := rfl

@[simp] theorem State.ignore_eq : s.ignore = s.answered .ign .none := rfl

end Sys2Proof.Machine
end

