-- ==== Sys2Proof/Laws/Ops.lean ====
section
/-! SUPPORT. One lemma per shared operation, saying once what it can do; proofs about instructions cite these instead of
unfolding the operations. -/

namespace Sys2Proof.Machine

variable (s : State)

/-! ### Control of a step -/

/-- Outside the fault state the next part is done (R266). -/
theorem State.andThen_of_none (f : State → State) (h : s.fault = .none) : s.andThen f = f s := by
  simp [State.andThen, h]

/-- In the fault state nothing is done (R266). -/
theorem State.andThen_of_fault (f : State → State) (h : s.fault ≠ .none) : s.andThen f = s := by
  simp [State.andThen, h]

/-- What holds if the next part is done, and of the state as it is, holds of `andThen`. -/
theorem State.andThen_induction (f : State → State) {P : State → Prop} (hs : P s) (hf : s.fault = .none → P (f s)) :
    P (s.andThen f) := by
  by_cases h : s.fault = .none
  · rw [s.andThen_of_none f h]; exact hf h
  · rw [s.andThen_of_fault f h]; exact hs

/-- A control word never stops the model. -/
theorem State.control_eq (body : State → State) : s.control body = .next (s.andThen body) := rfl

/-- A control word outside the fault state. -/
theorem State.control_of_none (body : State → State) (h : s.fault = .none) : s.control body = .next (body s) := by
  rw [State.control_eq, s.andThen_of_none body h]

/-- A control word in the fault state is not consumed. -/
theorem State.control_of_fault (body : State → State) (h : s.fault ≠ .none) : s.control body = .next s := by
  rw [State.control_eq, s.andThen_of_fault body h]

/-- The response of a frame-sending word outside the fault state. -/
theorem State.okFrame_of_none (h : s.fault = .none) : s.okFrame = s.answered .ok (.u24 s.lastFrame) := by
  simp [State.okFrame, s.andThen_of_none _ h]

/-- A word that faulted produces no response. -/
theorem State.okFrame_of_fault (h : s.fault ≠ .none) : s.okFrame = s := s.andThen_of_fault _ h

/-! ### Sending -/

/-- A completed exchange (R180). -/
theorem State.exchange_of_ok (b0 b1 b2 : Byte) (h : s.busOk = true) : s.exchange b0 b1 b2 = s.sent b0 b1 b2 := by
  simp [State.exchange, h]; rfl

/-- An exchange that does not complete (R263). -/
theorem State.exchange_of_not_ok (b0 b1 b2 : Byte) (hf : s.fault = .none) (h : s.busOk = false) :
    s.exchange b0 b1 b2 = s.busFailed := by
  simp [State.exchange, h, State.raise, hf]; rfl

/-- Everything an exchange can do. -/
theorem State.exchange_cases (b0 b1 b2 : Byte) (hf : s.fault = .none) :
    (s.busOk = true ∧ s.exchange b0 b1 b2 = s.sent b0 b1 b2) ∨
    (s.busOk = false ∧ s.exchange b0 b1 b2 = s.busFailed) := by
  cases h : s.busOk
  · exact .inr ⟨rfl, s.exchange_of_not_ok b0 b1 b2 hf h⟩
  · exact .inl ⟨rfl, s.exchange_of_ok b0 b1 b2 h⟩

/-- The offset a write packs its data with (R180). -/
theorem State.write_eq (data : U16) (addr cmd : Nat) (cfgWrite : Bool) :
    s.write data addr cmd cfgWrite =
      s.exchange (buildFrame data addr cmd (if cfgWrite then 0 else s.cfg.bitOffset)).raw0
        (buildFrame data addr cmd (if cfgWrite then 0 else s.cfg.bitOffset)).raw1
        (buildFrame data addr cmd (if cfgWrite then 0 else s.cfg.bitOffset)).raw2 := rfl

/-- Everything a write can do (R180). -/
theorem State.write_cases (data : U16) (addr cmd : Nat) (cfgWrite : Bool) (hf : s.fault = .none) :
    (s.busOk = true ∧ ∃ b0 b1 b2, s.write data addr cmd cfgWrite = s.sent b0 b1 b2) ∨
    (s.busOk = false ∧ s.write data addr cmd cfgWrite = s.busFailed) := by
  rcases s.exchange_cases _ _ _ hf with ⟨h, e⟩ | ⟨h, e⟩
  · exact .inl ⟨h, _, _, _, e⟩
  · exact .inr ⟨h, e⟩

/-- The draw does not depend on what a step writes. -/
theorem State.busOk_congr (t : State) (hb : t.bus = s.bus) (hn : t.busDrawn = s.busDrawn) : t.busOk = s.busOk := by
  simp [State.busOk, hb, hn]

/-! ### Real operands, slots and oscillators -/

/-- A non-finite operand (R261). -/
theorem State.withReal_of_none (w : U32) (body : Rat → State → State) (h : f32 w = none) :
    s.withReal w body = s.raise .nonfinite := by simp [State.withReal, h]

/-- A finite operand. -/
theorem State.withReal_of_some (w : U32) (q : Rat) (body : Rat → State → State) (h : f32 w = some q) :
    s.withReal w body = body q s := by simp [State.withReal, h]

/-- A zero denominator (R262). -/
theorem State.withCode_of_zero (slot : Slot) (volts : Rat) (body : U16 → State → State)
    (h : s.vref * (s.channel slot).gain.factor = 0) : s.withCode slot volts body = s.raise .div0 := by
  simp only [State.withCode, voltsToCode, if_pos h]

/-- The conversion of a voltage (R160). -/
theorem State.withCode_of_ne_zero (slot : Slot) (volts : Rat) (body : U16 → State → State)
    (h : s.vref * (s.channel slot).gain.factor ≠ 0) :
    s.withCode slot volts body = body (s.codeOf slot volts) s := by
  simp only [State.withCode, voltsToCode, if_neg h]; rfl

/-- The order of the checks of a channel word (R150): SEL, then identity. -/
theorem State.channelWord_of_no_slot (sel : Byte) (body : Slot → State → State) (hf : s.fault = .none)
    (h : slotOf sel = none) : s.channelWord sel body = .next (s.answered .ign .none) := by
  simp [State.channelWord, s.control_of_none _ hf, h]

/-- R151 for a channel word. -/
theorem State.channelWord_of_invalid (sel : Byte) (slot : Slot) (body : Slot → State → State) (hf : s.fault = .none)
    (h : slotOf sel = some slot) (hv : validId (s.chanId slot) = false) :
    s.channelWord sel body = .next ((s.setEn slot false).answered .ign .none) := by
  simp [State.channelWord, s.control_of_none _ hf, h, hv]

/-- A channel word on a slot of valid identity is its body. -/
theorem State.channelWord_of_selects (sel : Byte) (slot : Slot) (body : Slot → State → State) (hf : s.fault = .none)
    (h : s.Selects sel slot) : s.channelWord sel body = .next (body slot s) := by
  simp [State.channelWord, s.control_of_none _ hf, h.1, h.2]

/-- R151 inside a sequence. -/
theorem State.onSlot_cases (slot : Slot) (body : State → State) :
    (validId (s.chanId slot) = true ∧ s.onSlot slot body = body s) ∨
    (validId (s.chanId slot) = false ∧ s.onSlot slot body = s.setEn slot false) := by
  cases h : validId (s.chanId slot) <;> simp [State.onSlot, h]

/-- A SEL that names no oscillator (R219). -/
theorem State.oscWord_of_none (sel : Byte) (body : Osc → State → State) (hf : s.fault = .none)
    (h : s.oscs[sel.toNat]? = none) : s.oscWord sel body = .next (s.answered .ign .none) := by
  simp [State.oscWord, s.control_of_none _ hf, h]

/-- A SEL that names an oscillator (R219). -/
theorem State.oscWord_of_selects (sel : Byte) (o : Osc) (body : Osc → State → State) (hf : s.fault = .none)
    (h : s.SelectsOsc sel o) : s.oscWord sel body = .next (body o s) := by
  unfold State.SelectsOsc at h
  simp [State.oscWord, s.control_of_none _ hf, h]

/-! ### Shared bodies -/

/-- A write, then a cache that is written only if the exchange completed (R154, R156, R188). -/
theorem State.write_andThen_cases (data : U16) (addr cmd : Nat) (cfgWrite : Bool) (f : State → State)
    (hf : s.fault = .none) :
    (s.busOk = true ∧ ∃ b0 b1 b2, (s.write data addr cmd cfgWrite).andThen f = f (s.sent b0 b1 b2)) ∨
    (s.busOk = false ∧ (s.write data addr cmd cfgWrite).andThen f = s.busFailed) := by
  rcases s.write_cases data addr cmd cfgWrite hf with ⟨h, b0, b1, b2, e⟩ | ⟨h, e⟩
  · exact .inl ⟨h, b0, b1, b2, by rw [e, State.andThen_of_none _ _ (by simpa using hf)]⟩
  · exact .inr ⟨h, by rw [e, State.andThen_of_fault _ _ (by simp)]⟩

/-- An empty table under a Running oscillator is the only reason a tick stops the model. -/
theorem State.withTick_eq (after : State → State) :
    s.withTick after = if s.fault = .none ∧ s.tickLacksEntry = true then .fault .emptyTable
      else .next (s.andThen fun s => after s.tickAll) := rfl

/-- In the fault state a tick does nothing (R266). -/
theorem State.withTick_of_fault (after : State → State) (h : s.fault ≠ .none) : s.withTick after = .next s := by
  simp [State.withTick_eq, h, State.andThen_of_fault]

/-- The default `CMDCODE` gives a power frame the data `(PD << 4) | (1 << id)` (R89). -/
theorem powerData_dac8562 (pd : BitVec 2) (id : Byte) (h : validId id = true) :
    powerData CmdCode.dac8562 pd id = (pd.setWidth 16 <<< 4) ||| (1#16 <<< id.toNat) := by
  have hid : id = 0 ∨ id = 1 := by simpa [validId] using h
  rcases hid with rfl | rfl <;> revert pd <;> decide

/-- The default `CMDCODE` sends the synchronous-update mode itself (R91). -/
@[simp] theorem ldacData_dac8562 (mode : BitVec 2) : ldacData CmdCode.dac8562 mode = mode.setWidth 16 := by
  revert mode; decide

/-- A reserved encoding on the frame port is not sent (R69; log entry 11). -/
theorem stepFrame_reserved (f : U24) (s : State) (e : DecodeError) (h : decode (.frame f) = .error e) :
    stepFrame f s = .next s := by
  simp [stepFrame, h]

/-- The frames of a tick, oscillator after oscillator. -/
theorem State.framesOf_append (s : State) (l m : List Osc) : s.framesOf (l ++ m) = s.framesOf l ++ s.framesOf m :=
  List.filterMap_append

/-- Before any oscillator is served nothing has happened. -/
theorem State.served_nil (s : State) (rest : List Osc) : s.served [] rest = { s with oscs := rest } := by
  simp [State.served, State.framesOf, State.clearedBy]

end Sys2Proof.Machine
end

