-- ==== Sys2Proof/Laws/Writes.lean ====
section
/-! SUPPORT. What a step can do, said once: every instruction and every tick is a chain of elementary updates. A property
that each elementary update keeps is kept by every instruction. -/

namespace Sys2Proof.Machine

/-- One update of an oscillator's record. -/
inductive Osc.Update (cfg : Config) : Osc → Osc → Prop
  | run (o : Osc) (v : Bool) : Osc.Update cfg o (o.setRun v)
  | freq (o : Osc) (w : U32) (q : Rat) (h : f32 w = some q) : Osc.Update cfg o { o with freq := q }
  | amp (o : Osc) (q : Rat) : Osc.Update cfg o (Osc.regen cfg.fullScale { o with amp := clampRat q 0 1 })
  | ph (o : Osc) (q : Rat) : Osc.Update cfg o { o with ph := modRat q o.size }
  | dc (o : Osc) (q : Rat) : Osc.Update cfg o (Osc.regen cfg.fullScale { o with dc := clampRat q (-1) 1 })
  | kind (o : Osc) (k : Kind) : Osc.Update cfg o (Osc.regen cfg.fullScale { o with kind := k })
  | entry (o : Osc) (i : Nat) (v : U16) : Osc.Update cfg o { o with table := memWrite o.table i v }
  | bind (o : Osc) (slot : Slot) : Osc.Update cfg o { o with bind := slot }
  | vmode (o : Osc) (v : Bool) : Osc.Update cfg o { o with vmode := v }
  | advance (o : Osc) : Osc.Update cfg o (o.advance cfg.sps)

/-- One update of the state. -/
inductive State.Update : State → State → Prop
  | fr (s : State) (f : Frame) : State.Update s (s.setFr f)
  | vref (s : State) (q : Rat) : State.Update s { s with vref := clampRat q 0 5 }
  | intrefEn (s : State) (v : Bool) : State.Update s (s.setIntrefEn v)
  | pdMode (s : State) (m : BitVec 2) : State.Update s (s.setPdMode m)
  | ldacMode (s : State) (m : BitVec 2) : State.Update s { s with ldacMode := m }
  | syncAtt (s : State) (v : Bool) : State.Update s (s.setSyncAtt v)
  | clrAtt (s : State) (v : Bool) : State.Update s (s.setClrAtt v)
  | raise (s : State) (c : FaultCode) (hc : c ≠ .none) : State.Update s (s.raise c)
  | en (s : State) (slot : Slot) (v : Bool) : State.Update s (s.setEn slot v)
  | gain (s : State) (slot : Slot) (g : Gain) : State.Update s (s.setGain slot g)
  | exchange (s : State) (b0 b1 b2 : Byte) (h : b0 &&& 0xC0 = 0) : State.Update s (s.exchange b0 b1 b2)
  | ldacPulse (s : State) (h : s.syncAtt = true) : State.Update s (s.pulse .ldac)
  | clrPulse (s : State) (h : s.clrAtt = true) : State.Update s (s.pulse .clr)
  | respond (s : State) (status : Status) (value : RespValue) : State.Update s (s.respond status value)
  | osc (s : State) (o : Nat) (osc osc' : Osc) (h : s.oscs[o]? = some osc) (u : Osc.Update s.cfg osc osc') :
      State.Update s (s.setOsc o osc')

/-- A chain of updates. -/
abbrev State.Updates : State → State → Prop := Relation.ReflTransGen State.Update

variable {s t : State}

/-- One update is a chain. -/
theorem State.Update.chain (h : State.Update s t) : s.Updates t := .single h

/-- A part of a step that is skipped in the fault state. -/
theorem State.Updates.andThen (f : State → State) (h : s.Updates t) (hf : ∀ u : State, u.Updates (f u)) :
    s.Updates (t.andThen f) := by
  unfold State.andThen
  split
  · exact h.trans (hf t)
  · exact h

/-- The frame `Write` builds has its reserved bits 0 (R81). -/
theorem buildFrame_reserved (data : U16) (addr cmd : Nat) (off : Fin 5) :
    (buildFrame data addr cmd off).raw0 &&& 0xC0 = 0 := by
  have ha : min addr 7 < 8 := by omega
  have hc : min cmd 7 < 8 := by omega
  simp only [buildFrame, packData, packCommand, packAddress, freshFrame]
  generalize min addr 7 = a at *
  generalize min cmd 7 = c at *
  interval_cases a <;> interval_cases c <;> decide

/-- A write is one exchange. -/
theorem State.write_updates (s : State) (data : U16) (addr cmd : Nat) (cfgWrite : Bool) :
    s.Updates (s.write data addr cmd cfgWrite) :=
  (State.Update.exchange s _ _ _ (buildFrame_reserved _ _ _ _)).chain

/-- A configuration frame. -/
theorem State.writeConfig_updates (s : State) (data : U16) (cmd : BitVec 3) : s.Updates (s.writeConfig data cmd) :=
  s.write_updates _ _ _ _

/-- A response. -/
theorem State.respond_updates (s : State) (status : Status) (value : RespValue) : s.Updates (s.respond status value) :=
  (State.Update.respond s status value).chain

/-- A frame and the response that returns it. -/
theorem State.Updates.okFrame (h : s.Updates t) : s.Updates t.okFrame := h.andThen _ fun u => u.respond_updates _ _

/-- SETOUT. -/
theorem State.setOut_updates (s : State) (slot : Slot) (code : U16) (au : Bool) : s.Updates (s.setOut slot code au) :=
  s.write_updates _ _ _ _

/-- A part that needs a valid identity. -/
theorem State.onSlot_updates (s : State) (slot : Slot) (f : State → State) (hf : s.Updates (f s)) :
    s.Updates (s.onSlot slot f) := by
  rcases s.onSlot_cases slot f with ⟨_, e⟩ | ⟨_, e⟩ <;> rw [e]
  · exact hf
  · exact (State.Update.en s slot false).chain

/-- The gain part. -/
theorem State.gainBody_updates (s : State) (slot : Slot) (m : GainMode) : s.Updates (s.gainBody slot m) :=
  (s.write_updates _ _ _ _).andThen _ fun u => (State.Update.gain u slot _).chain

/-- The power part. -/
theorem State.powerBody_updates (s : State) (slot : Slot) (pd : BitVec 2) (en : Bool) :
    s.Updates (s.powerBody slot pd en) :=
  (s.writeConfig_updates _ _).andThen _ fun u => (State.Update.en u slot en).chain

/-- SYNCMODE. -/
theorem State.syncModeBody_updates (s : State) (m : BitVec 2) : s.Updates (s.syncModeBody m) :=
  (s.writeConfig_updates _ _).andThen _ fun u => (State.Update.ldacMode u m).chain

/-- INTREF. -/
theorem State.intrefBody_updates (s : State) (e : Bool) : s.Updates (s.intrefBody e) :=
  (((s.writeConfig_updates _ _).andThen _ fun u => (State.Update.intrefEn u e).chain).andThen _
    fun u => u.onSlot_updates .a _ (u.gainBody_updates .a _)).andThen _
    fun u => u.onSlot_updates .b _ (u.gainBody_updates .b _)

/-- DEFAULT. -/
theorem State.defaultBody_updates (s : State) : s.Updates s.defaultBody :=
  (((((State.Update.pdMode s 1).chain.andThen _
    fun u => u.onSlot_updates .a _ (u.powerBody_updates .a _ false)).andThen _
    fun u => u.onSlot_updates .b _ (u.powerBody_updates .b _ false)).andThen _
    fun u => u.syncModeBody_updates 3).andThen _ fun u => u.intrefBody_updates true)

/-- A real operand. -/
theorem State.withReal_updates (s : State) (w : U32) (f : Rat → State → State)
    (hf : ∀ q, f32 w = some q → s.Updates (f q s)) : s.Updates (s.withReal w f) := by
  unfold State.withReal
  split
  · exact (State.Update.raise s _ (by decide)).chain
  · exact hf _ ‹_›

/-- A conversion to a code. -/
theorem State.withCode_updates (s : State) (slot : Slot) (volts : Rat) (f : U16 → State → State)
    (hf : ∀ c, s.Updates (f c s)) : s.Updates (s.withCode slot volts f) := by
  unfold State.withCode
  split
  · exact (State.Update.raise s _ (by decide)).chain
  · exact hf _

/-- FORWARD. -/
theorem State.forward_updates (s : State) (o : Osc) (code : U16) : s.Updates (s.forward o code) := by
  apply s.onSlot_updates
  split
  · exact s.withCode_updates _ _ _ fun c => s.setOut_updates _ _ _
  · exact s.setOut_updates _ _ _

/-- One oscillator's part of a tick. -/
theorem State.tickOsc_updates (s : State) (o : Nat) : s.Updates (s.tickOsc o) := by
  unfold State.tickOsc
  split
  · exact .refl
  · rename_i osc h
    split
    · split
      · exact .refl
      · exact (State.Update.osc s o osc _ h (.advance osc)).chain.trans (State.forward_updates _ _ _)
    · exact .refl

/-- A tick. -/
theorem State.tickAll_updates (s : State) : s.Updates s.tickAll := by
  unfold State.tickAll
  generalize List.range s.oscs.length = l
  suffices h : ∀ u : State, s.Updates u → s.Updates (l.foldl (fun s o => s.andThen fun s => s.tickOsc o) u) from
    h s .refl
  induction l with
  | nil => exact fun u h => h
  | cons o l ih => exact fun u h => ih _ (h.andThen _ fun v => v.tickOsc_updates o)

/-- A tick and what follows it. -/
theorem State.withTick_updates (s t : State) (f : State → State) (hf : ∀ u : State, u.Updates (f u))
    (h : s.withTick f = .next t) : s.Updates t := by
  rw [State.withTick_eq] at h
  split at h
  · cases h
  · cases h
    exact State.Updates.andThen _ .refl fun u => u.tickAll_updates.trans (hf _)

/-- A control word. -/
theorem State.control_updates (s t : State) (f : State → State) (hf : ∀ u : State, u.Updates (f u))
    (h : s.control f = .next t) : s.Updates t := by
  cases h
  exact State.Updates.andThen _ .refl hf

/-- A channel word. -/
theorem State.channelWord_updates (s t : State) (sel : Byte) (f : Slot → State → State)
    (hf : ∀ (slot : Slot) (u : State), u.Updates (f slot u)) (h : s.channelWord sel f = .next t) : s.Updates t := by
  refine State.control_updates s t _ (fun u => ?_) h
  split
  · exact u.respond_updates _ _
  · split
    · exact hf _ u
    · exact (State.Update.en u _ false).chain.trans (State.respond_updates _ _ _)

/-- An oscillator word. -/
theorem State.oscWord_updates (s t : State) (sel : Byte) (f : Osc → State → State)
    (hf : ∀ (o : Osc) (u : State), u.oscs[sel.toNat]? = some o → u.Updates (f o u))
    (h : s.oscWord sel f = .next t) : s.Updates t := by
  refine State.control_updates s t _ (fun u => ?_) h
  split
  · exact u.respond_updates _ _
  · exact hf _ u ‹_›

/-- A wire frame. -/
theorem State.sendFrame_updates (s t : State) (b0 : Byte) (data : U16) (h : s.sendFrame b0 data = .next t) :
    s.Updates t := by
  refine State.control_updates s t _ (fun u => (State.Update.exchange u _ _ _ ?_).chain) h
  apply BitVec.eq_of_getElem_eq
  intro i hi
  have : ∀ i < 8, ((0x3F#8).getLsbD i && (0xC0#8).getLsbD i) = false := by decide
  have := this i hi
  simp only [BitVec.getLsbD_eq_getElem hi] at this
  simp [Bool.and_assoc, this]

/-- An oscillator update followed by its response. -/
theorem State.setOsc_ok_updates (s : State) (o : Nat) (osc osc' : Osc) (h : s.oscs[o]? = some osc)
    (u : Osc.Update s.cfg osc osc') (value : RespValue) : s.Updates ((s.setOsc o osc').ok value) :=
  (State.Update.osc s o osc osc' h u).chain.trans (State.respond_updates _ _ _)

/-- A word with no effect but its response, or one plain update before it. -/
theorem State.control_ok_updates (s t : State) (f : State → State) (value : State → RespValue)
    (hf : ∀ u : State, u.Updates (f u)) (h : s.control (fun u => (f u).ok (value u)) = .next t) : s.Updates t :=
  State.control_updates s t _ (fun u => (hf u).trans (State.respond_updates _ _ _)) h

/-- Every instruction is a chain of updates. -/
theorem exec_updates (i : Instr) (s t : State) (h : exec i s = .next t) : s.Updates t := by
  cases i
  case frClear => exact s.control_ok_updates t _ _ (fun u => (State.Update.fr u _).chain) h
  case frLoad => exact s.control_ok_updates t _ _ (fun u => (State.Update.fr u _).chain) h
  case frSetoff => exact s.control_ok_updates t _ _ (fun u => (State.Update.fr u _).chain) h
  case packData => exact s.control_ok_updates t _ _ (fun u => (State.Update.fr u _).chain) h
  case packAddr => exact s.control_ok_updates t _ _ (fun u => (State.Update.fr u _).chain) h
  case packCmd => exact s.control_ok_updates t _ _ (fun u => (State.Update.fr u _).chain) h
  case unpackData => exact s.control_ok_updates t _ _ (fun u => .refl) h
  case unpackAddr => exact s.control_ok_updates t _ _ (fun u => .refl) h
  case unpackCmd => exact s.control_ok_updates t _ _ (fun u => .refl) h
  case frRead => exact s.control_ok_updates t _ _ (fun u => .refl) h
  case chSetout => exact s.channelWord_updates t _ _ (fun slot u => (u.setOut_updates slot _ _).okFrame) h
  case chSetv =>
    exact s.channelWord_updates t _ _ (fun slot u => u.withReal_updates _ _ fun q _ =>
      u.withCode_updates _ _ _ fun c => (u.setOut_updates slot c _).okFrame) h
  case chGain =>
    refine s.channelWord_updates t _ _ (fun slot u => ?_) h
    split
    · exact u.respond_updates _ _
    · exact (u.gainBody_updates slot _).okFrame
  case chUpdate => exact s.channelWord_updates t _ _ (fun slot u => (u.write_updates _ _ _ _).okFrame) h
  case chEn => exact s.channelWord_updates t _ _ (fun slot u => (u.powerBody_updates slot _ _).okFrame) h
  case chDis => exact s.channelWord_updates t _ _ (fun slot u => (u.powerBody_updates slot _ _).okFrame) h
  case chD2v => exact s.channelWord_updates t _ _ (fun slot u => u.respond_updates _ _) h
  case chV2d =>
    exact s.channelWord_updates t _ _ (fun slot u => u.withReal_updates _ _ fun q _ =>
      u.withCode_updates _ _ _ fun c => u.respond_updates _ _) h
  case devInit => exact State.control_updates s t _ (fun u => u.defaultBody_updates.okFrame) h
  case devDefault => exact State.control_updates s t _ (fun u => u.defaultBody_updates.okFrame) h
  case devVref =>
    exact State.control_updates s t _ (fun u => u.withReal_updates _ _ fun q _ =>
      (State.Update.vref u q).chain.trans (State.respond_updates _ _ _)) h
  case devIntref => exact State.control_updates s t _ (fun u => (u.intrefBody_updates _).okFrame) h
  case devAttSync => exact s.control_ok_updates t _ _ (fun u => (State.Update.syncAtt u _).chain) h
  case devDetSync => exact s.control_ok_updates t _ _ (fun u => (State.Update.syncAtt u _).chain) h
  case devAttClr => exact s.control_ok_updates t _ _ (fun u => (State.Update.clrAtt u _).chain) h
  case devDetClr => exact s.control_ok_updates t _ _ (fun u => (State.Update.clrAtt u _).chain) h
  case devSyncmode => exact State.control_updates s t _ (fun u => (u.syncModeBody_updates _).okFrame) h
  case devLdacPulse =>
    refine s.control_ok_updates t _ _ (fun u => ?_) h
    split
    · exact (State.Update.ldacPulse u ‹_›).chain
    · exact .refl
  case devPdmode => exact s.control_ok_updates t _ _ (fun u => (State.Update.pdMode u _).chain) h
  case devRstInput => exact State.control_updates s t _ (fun u => (u.writeConfig_updates _ _).okFrame) h
  case devRstFactory => exact State.control_updates s t _ (fun u => (u.writeConfig_updates _ _).okFrame) h
  case devClrPulse =>
    refine s.control_ok_updates t _ _ (fun u => ?_) h
    split
    · exact (State.Update.clrPulse u ‹_›).chain
    · exact .refl
  case devWrite => exact State.control_updates s t _ (fun u => (u.write_updates _ _ _ _).okFrame) h
  case devLast => exact s.control_ok_updates t _ _ (fun u => .refl) h
  case oscEn => exact s.oscWord_updates t _ _ (fun o u ho => u.setOsc_ok_updates _ o _ ho (.run o _) _) h
  case oscDis => exact s.oscWord_updates t _ _ (fun o u ho => u.setOsc_ok_updates _ o _ ho (.run o _) _) h
  case oscFreq =>
    exact s.oscWord_updates t _ _ (fun o u ho => u.withReal_updates _ _ fun q hq =>
      u.setOsc_ok_updates _ o _ ho (.freq o _ q hq) _) h
  case oscAmp =>
    exact s.oscWord_updates t _ _ (fun o u ho => u.withReal_updates _ _ fun q _ =>
      u.setOsc_ok_updates _ o _ ho (.amp o q) _) h
  case oscPhase =>
    exact s.oscWord_updates t _ _ (fun o u ho => u.withReal_updates _ _ fun q _ =>
      u.setOsc_ok_updates _ o _ ho (.ph o q) _) h
  case oscDc =>
    exact s.oscWord_updates t _ _ (fun o u ho => u.withReal_updates _ _ fun q _ =>
      u.setOsc_ok_updates _ o _ ho (.dc o q) _) h
  case oscKind =>
    refine s.oscWord_updates t _ _ (fun o u ho => ?_) h
    split
    · exact u.respond_updates _ _
    · exact u.setOsc_ok_updates _ o _ ho (.kind o _) _
  case oscTwr =>
    refine s.oscWord_updates t _ _ (fun o u ho => ?_) h
    split
    · exact u.setOsc_ok_updates _ o _ ho (.entry o _ _) _
    · exact u.respond_updates _ _
  case oscTrd =>
    refine s.oscWord_updates t _ _ (fun o u ho => ?_) h
    split
    · exact u.respond_updates _ _
    · exact u.respond_updates _ _
  case oscBind =>
    refine s.oscWord_updates t _ _ (fun o u ho => ?_) h
    split
    · exact u.respond_updates _ _
    · exact u.setOsc_ok_updates _ o _ ho (.bind o _) _
  case oscVmode => exact s.oscWord_updates t _ _ (fun o u ho => u.setOsc_ok_updates _ o _ ho (.vmode o _) _) h
  case oscIdx => exact s.oscWord_updates t _ _ (fun o u ho => u.respond_updates _ _) h
  case tick =>
    exact s.withTick_updates t _ (fun u => State.Updates.andThen _ .refl fun v => v.respond_updates _ _) h
  all_goals exact s.sendFrame_updates t _ _ h

/-- Everything a step can do: with no input nothing, on the reset input the reset, else a chain of updates after the
input is taken. -/
theorem step_cases (s t : State) (h : step s = .next t) :
    (s.inputs = [] ∧ t = s) ∨
    (∃ rest, s.inputs = .reset :: rest ∧ t = State.applyReset { s with inputs := rest }) ∨
    (∃ x rest, s.inputs = x :: rest ∧ x ≠ .reset ∧ State.Updates { s with inputs := rest } t) := by
  unfold step at h
  split at h
  · cases h; exact .inl ⟨‹_›, rfl⟩
  · rename_i rest hi
    refine .inr (.inr ⟨_, rest, hi, by simp, ?_⟩)
    unfold stepWord at h
    split at h
    · cases h; exact .refl
    · split at h
      · exact exec_updates _ _ _ h
      · exact State.control_updates _ t _ (fun u => u.respond_updates _ _) h
  · rename_i rest hi
    exact .inr (.inr ⟨_, rest, hi, by simp, State.withTick_updates _ t _ (fun u => .refl) h⟩)
  · cases h; exact .inr (.inl ⟨_, ‹_›, rfl⟩)
  · rename_i f rest hi
    refine .inr (.inr ⟨_, rest, hi, by simp, ?_⟩)
    unfold stepFrame at h
    split at h
    · exact exec_updates _ _ _ h
    · cases h; exact .refl

/-- What every update keeps, a chain of updates keeps. -/
theorem State.Updates.keeps {P : State → Prop} (h : s.Updates t) (hs : P s)
    (hu : ∀ u v : State, P u → State.Update u v → P v) : P t := by
  induction h with
  | refl => exact hs
  | tail _ step ih => exact hu _ _ ih step

end Sys2Proof.Machine
end

