-- ==== Sys2Proof/Laws/Memory.lean ====
section
/-! SUPPORT. The wavetable memory (spec/20_memory.md R60, R61): what an entry reads as after a write, and that every
update of the state, and reset, keep the memory's form. -/

namespace Sys2Proof.Machine

variable (t : Wavetable) (i j : Nat) (v : U16)

/-- A write changes no table size (R61). -/
@[simp] theorem memWrite_length : (memWrite t i v).length = t.length := by simp [memWrite]

/-- The entry written reads as the value written. -/
theorem memRead_memWrite_same (h : i < t.length) : memRead (memWrite t i v) i = some v := by
  simp [memRead, memWrite, h]

/-- Every other entry reads as before. -/
theorem memRead_memWrite_other (h : i ≠ j) : memRead (memWrite t i v) j = memRead t j := by
  simp [memRead, memWrite, h]

/-- An entry exists just when its index is below the table size (R60). -/
theorem memRead_isSome : (memRead t i).isSome = decide (i < t.length) := by
  by_cases h : i < t.length <;> simp [memRead, h]

/-- Regeneration keeps the table size (R226). -/
@[simp] theorem Osc.regen_size (fs : Nat) (o : Osc) : (o.regen fs).size = o.size := by
  unfold Osc.regen Osc.size; cases o.kind <;> simp

/-- Regeneration writes the table alone. -/
theorem Osc.regen_eq (fs : Nat) (o : Osc) : o.regen fs = { o with table := (o.regen fs).table } := by
  unfold Osc.regen; cases h : o.kind <;> simp [← h]

/-- An ARB table is left alone (R229). -/
theorem Osc.regen_arb (fs : Nat) (o : Osc) (h : o.kind = .arb) : o.regen fs = o := by simp [Osc.regen, h]

/-- No update of an oscillator changes its table size. -/
theorem Osc.Update.size {cfg : Config} {o o' : Osc} (u : Osc.Update cfg o o') : o'.size = o.size := by
  cases u <;> first | rfl | exact Osc.regen_size _ _ | simp [Osc.size]

/-- The form of the memory, table by table. -/
theorem Memory.wf_iff (m : Memory) : Memory.wf m = true ↔ ∀ t ∈ m, 1 ≤ t.length ∧ t.length ≤ 65536 := by
  simp [Memory.wf]

/-- `OSC[o] <- osc` keeps the memory's form if it keeps the table size. -/
theorem State.setOsc_memory_wf (s : State) (o : Nat) (osc osc' : Osc) (hm : Memory.wf s.memory = true)
    (h : s.oscs[o]? = some osc) (hs : osc'.size = osc.size) : Memory.wf (s.setOsc o osc').memory = true := by
  rw [Memory.wf_iff] at *
  intro t ht
  simp only [State.memory, State.setOsc, List.mem_map] at ht
  obtain ⟨x, hx, rfl⟩ := ht
  rcases List.mem_or_eq_of_mem_set hx with hx | rfl
  · exact hm _ (List.mem_map_of_mem hx)
  · have := hm _ (List.mem_map_of_mem (List.mem_of_getElem? h))
    unfold Osc.size at hs
    omega

/-- Every update keeps the memory's form. -/
theorem State.Update.memory_wf {s t : State} (u : State.Update s t) (hm : Memory.wf s.memory = true) :
    Memory.wf t.memory = true := by
  cases u
  case raise => unfold State.raise; split <;> exact hm
  case en slot _ => cases slot <;> exact hm
  case gain slot _ => cases slot <;> exact hm
  case exchange => unfold State.exchange State.raise; split <;> first | exact hm | (split <;> exact hm)
  case osc o osc osc' h u => exact s.setOsc_memory_wf o osc osc' hm h u.size
  all_goals exact hm

/-- Reset regenerates every table at its size, so it keeps the memory's form (R290). -/
theorem State.applyReset_memory_wf (s : State) (hm : Memory.wf s.memory = true) :
    Memory.wf s.applyReset.memory = true := by
  rw [Memory.wf_iff] at *
  intro t ht
  simp only [State.memory, State.applyReset, State.atReset, List.map_map, List.mem_map] at ht
  obtain ⟨⟨o, n⟩, ho, rfl⟩ := ht
  have h := hm _ (List.mem_map_of_mem (List.fst_mem_of_mem_zipIdx ho))
  have hl : (Osc.atReset s.cfg.fullScale n o.table).size = o.table.length := by
    unfold Osc.atReset; rw [Osc.regen_size]; rfl
  unfold Osc.size at hl
  simp only [Function.comp_apply, hl]
  exact h

/-- The memory of the state after reset has its form. -/
theorem State.reset_memory_wf : Memory.wf State.reset.memory = true := by
  have hl : ∀ k n, (Osc.atReset Config.default.fullScale k (List.replicate n 0)).table.length = n := by
    intro k n
    have h : (Osc.atReset Config.default.fullScale k (List.replicate n 0)).size = n := by
      unfold Osc.atReset; rw [Osc.regen_size]; simp [Osc.size]
    exact h
  have hn : ∀ k, 1 ≤ Config.tableSize k ∧ Config.tableSize k ≤ 65536 := by
    intro k; unfold Config.tableSize; have := (Config.tableSizeLessOne k).isLt; omega
  rw [Memory.wf_iff]
  intro t ht
  simp only [State.memory, State.reset, State.atReset, Config.numOsc, List.map_map, List.mem_map] at ht
  obtain ⟨⟨o, k⟩, ho, rfl⟩ := ht
  have ho := List.fst_mem_of_mem_zipIdx ho
  simp only [List.mem_map] at ho
  obtain ⟨c, _, rfl⟩ := ho
  simp only [Function.comp_apply, Osc.blank, hl]
  exact hn c

end Sys2Proof.Machine
end

