-- ==== Sys2Proof/Laws/Numerics.lean ====
section
/-! SUPPORT. What the arithmetic primitives of spec/00_scope.md section 4 can answer, and when an oscillator's sample
exists (spec/43_oscillator.md R240). -/

namespace Sys2Proof.Machine

/-- A clamped value lies in the range. -/
theorem clampRat_mem (x lo hi : Rat) (h : lo ≤ hi) : lo ≤ clampRat x lo hi ∧ clampRat x lo hi ≤ hi :=
  ⟨le_min (le_max_right _ _) h, min_le_right _ _⟩

/-- A clamp, case by case. -/
theorem clampRat_eq (x lo hi : Rat) (h : lo ≤ hi) :
    clampRat x lo hi = if x < lo then lo else if hi < x then hi else x := by
  unfold clampRat
  split
  · rw [max_eq_right (by linarith), min_eq_left h]
  · rw [max_eq_left (by linarith)]
    split
    · exact min_eq_right (by linarith)
    · exact min_eq_left (by linarith)

/-- A reduced phase lies in `[0, n)` (R224). -/
theorem modRat_mem (q : Rat) (n : Nat) (h : 1 ≤ n) : 0 ≤ modRat q n ∧ modRat q n < n := by
  unfold modRat
  have hn : (0 : Rat) < n := by exact_mod_cast h
  have h1 := mul_le_mul_of_nonneg_left (Int.floor_le (q / n)) hn.le
  have h2 := mul_lt_mul_of_pos_left (Int.lt_floor_add_one (q / n)) hn
  rw [mul_div_cancel₀ _ hn.ne'] at h1 h2
  constructor <;> linarith

/-- `round_ha` is within one half (R12). -/
theorem roundHa_close (q : Rat) : |(roundHa q : Rat) - q| ≤ 1 / 2 := by
  unfold roundHa
  split
  · have h1 := Int.floor_le (q + 1 / 2)
    have h2 := Int.lt_floor_add_one (q + 1 / 2)
    rw [abs_le]; constructor <;> linarith
  · have h1 := Int.floor_le (-q + 1 / 2)
    have h2 := Int.lt_floor_add_one (-q + 1 / 2)
    push_cast
    rw [abs_le]; constructor <;> linarith

/-- `round_ha` moves no integer. -/
theorem roundHa_intCast (n : Int) : roundHa n = n := by
  have h := roundHa_close n
  rw [abs_le] at h
  have h1 : (roundHa n : Rat) < n + 1 := by linarith
  have h2 : (n : Rat) - 1 < roundHa n := by linarith
  have h1' : roundHa n < n + 1 := by exact_mod_cast h1
  have h2' : n - 1 < roundHa n := by exact_mod_cast h2
  omega

/-- A word whose exponent field is all ones is not finite, every other word is (R13). -/
theorem f32_isSome (w : U32) : (f32 w).isSome = decide (expField w ≠ 255) := by
  unfold f32; split <;> simp_all

/-- The entries a sample reads exist if the table has one entry (R240). -/
theorem Osc.sample_isSome (o : Osc) (h : 1 ≤ o.size) : o.sample.isSome = true := by
  unfold Osc.sample memRead
  have hpos : (0 : Int) < o.size := by omega
  have h1 := Int.emod_lt_of_pos ⌊o.pos⌋ hpos
  have h2 := Int.emod_nonneg ⌊o.pos⌋ hpos.ne'
  have ha : (⌊o.pos⌋ % (o.size : Int)).toNat < o.table.length := by unfold Osc.size at *; omega
  have hb : ((⌊o.pos⌋ % (o.size : Int)).toNat + 1) % o.size < o.table.length := Nat.mod_lt _ h
  simp only [List.getElem?_eq_getElem ha, List.getElem?_eq_getElem hb]
  rfl

/-- An advanced accumulator is an index of the table (R241). -/
theorem Osc.advance_idx_lt (sps : Nat) (o : Osc) (h : 1 ≤ o.size) : (o.advance sps).idx < o.size := by
  have hpos : (0 : Int) < o.size := by omega
  have h1 := Int.emod_lt_of_pos (o.idx + o.stepSize sps) hpos
  have h2 := Int.emod_nonneg (o.idx + o.stepSize sps) hpos.ne'
  simp only [Osc.advance]
  omega

/-- An advance changes the accumulator alone. -/
theorem Osc.advance_eq (sps : Nat) (o : Osc) : o.advance sps = { o with idx := (o.advance sps).idx } := rfl

end Sys2Proof.Machine
end

