-- ==== Sys2Proof/Laws/PerInstr.lean ====
section
/-! SUPPORT. A statement about every instruction as syntax, one lemma per constructor: the bits an instruction is
written as match the row of spec/opcode_table.json it belongs to. -/

namespace Sys2Proof.Laws

/-- The encoding has as many bits as the row, and matches its mask and pattern (30_encoding.md R84 to R92, R102). -/
def RowMatch.Statement (i : Instr) : Prop :=
  (bitsNat (encode i)).1 = (rowOf i).bits ∧ (bitsNat (encode i)).2 &&& (rowOf i).mask = (rowOf i).pattern

/-- Any control word of an opcode matches the opcode's row. -/
theorem RowMatch.word (m : String) (op sel : Byte) (imm : U16) (w32 : U32) :
    (mkWord op sel imm w32).toNat &&& (Row.control m op.toNat).mask = (Row.control m op.toNat).pattern := by
  rw [mkWord_toNat, Nat.add_assoc, Nat.add_assoc]
  have h1 := sel.isLt
  have h2 := imm.isLt
  have h3 := w32.isLt
  exact mask_control _ _ (by omega) op.isLt

/-- Any frame of a first byte, under a row's mask that has no bit in the data. -/
theorem RowMatch.frame (b : Byte) (d : U16) (m : Nat) :
    (b ++ d).toNat &&& (m * 2 ^ 16) = (b.toNat &&& m) * 2 ^ 16 := by
  have h := d.isLt
  rw [BitVec.toNat_append, ← Nat.shiftLeft_eq, ← Nat.shiftLeft_eq, Nat.and_or_distrib_right,
    ← Nat.shiftLeft_and_distrib]
  suffices h0 : d.toNat &&& m <<< 16 = 0 by rw [h0, Nat.or_zero]
  apply Nat.eq_of_testBit_eq; intro i
  simp only [Nat.testBit_and, Nat.testBit_shiftLeft, Nat.zero_testBit]
  by_cases hi : 16 ≤ i
  · simp [Nat.testBit_eq_false_of_lt (lt_of_lt_of_le h (Nat.pow_le_pow_right (by norm_num) hi))]
  · simp [hi]

/-- Any frame of a row that fixes CMD and ADDR. -/
theorem RowMatch.wire (name : String) (b : Byte) (d : U16) (h : b.toNat &&& 0x3F = b.toNat) :
    (b ++ d).toNat &&& (Row.frame name b.toNat).mask = (Row.frame name b.toNat).pattern := by
  rw [show (Row.frame name b.toNat).mask = 0x3F * 2 ^ 16 from rfl, RowMatch.frame, h]; rfl

/-- Any frame of a row that fixes CMD. -/
theorem RowMatch.wireConfig (name : String) (b : Byte) (d : U16) (h : b.toNat &&& 0x38 = b.toNat) :
    (b ++ d).toNat &&& (Row.configFrame name b.toNat).mask = (Row.configFrame name b.toNat).pattern := by
  rw [show (Row.configFrame name b.toNat).mask = 0x38 * 2 ^ 16 from rfl, RowMatch.frame, h]; rfl

theorem RowMatch.frClear : RowMatch.Statement (.frClear) := ⟨rfl, RowMatch.word _ _ _ _ _⟩
theorem RowMatch.frLoad (frame : U24) : RowMatch.Statement (.frLoad frame) := ⟨rfl, RowMatch.word _ _ _ _ _⟩
theorem RowMatch.frSetoff (value : U16) : RowMatch.Statement (.frSetoff value) := ⟨rfl, RowMatch.word _ _ _ _ _⟩
theorem RowMatch.packData (value : U16) : RowMatch.Statement (.packData value) := ⟨rfl, RowMatch.word _ _ _ _ _⟩
theorem RowMatch.packAddr (value : U32) : RowMatch.Statement (.packAddr value) := ⟨rfl, RowMatch.word _ _ _ _ _⟩
theorem RowMatch.packCmd (value : U32) : RowMatch.Statement (.packCmd value) := ⟨rfl, RowMatch.word _ _ _ _ _⟩
theorem RowMatch.unpackData : RowMatch.Statement (.unpackData) := ⟨rfl, RowMatch.word _ _ _ _ _⟩
theorem RowMatch.unpackAddr : RowMatch.Statement (.unpackAddr) := ⟨rfl, RowMatch.word _ _ _ _ _⟩
theorem RowMatch.unpackCmd : RowMatch.Statement (.unpackCmd) := ⟨rfl, RowMatch.word _ _ _ _ _⟩
theorem RowMatch.frRead : RowMatch.Statement (.frRead) := ⟨rfl, RowMatch.word _ _ _ _ _⟩
theorem RowMatch.chSetout (sel : Byte) (code : U16) (au : Bool) : RowMatch.Statement (.chSetout sel code au) := ⟨rfl, RowMatch.word _ _ _ _ _⟩
theorem RowMatch.chSetv (sel : Byte) (au : Bool) (volts : U32) : RowMatch.Statement (.chSetv sel au volts) := ⟨rfl, RowMatch.word _ _ _ _ _⟩
theorem RowMatch.chGain (sel : Byte) (mode : U16) : RowMatch.Statement (.chGain sel mode) := ⟨rfl, RowMatch.word _ _ _ _ _⟩
theorem RowMatch.chUpdate (sel : Byte) : RowMatch.Statement (.chUpdate sel) := ⟨rfl, RowMatch.word _ _ _ _ _⟩
theorem RowMatch.chEn (sel : Byte) : RowMatch.Statement (.chEn sel) := ⟨rfl, RowMatch.word _ _ _ _ _⟩
theorem RowMatch.chDis (sel : Byte) : RowMatch.Statement (.chDis sel) := ⟨rfl, RowMatch.word _ _ _ _ _⟩
theorem RowMatch.chD2v (sel : Byte) (code : U16) : RowMatch.Statement (.chD2v sel code) := ⟨rfl, RowMatch.word _ _ _ _ _⟩
theorem RowMatch.chV2d (sel : Byte) (volts : U32) : RowMatch.Statement (.chV2d sel volts) := ⟨rfl, RowMatch.word _ _ _ _ _⟩
theorem RowMatch.devInit : RowMatch.Statement (.devInit) := ⟨rfl, RowMatch.word _ _ _ _ _⟩
theorem RowMatch.devDefault : RowMatch.Statement (.devDefault) := ⟨rfl, RowMatch.word _ _ _ _ _⟩
theorem RowMatch.devVref (volts : U32) : RowMatch.Statement (.devVref volts) := ⟨rfl, RowMatch.word _ _ _ _ _⟩
theorem RowMatch.devIntref (value : U16) : RowMatch.Statement (.devIntref value) := ⟨rfl, RowMatch.word _ _ _ _ _⟩
theorem RowMatch.devAttSync : RowMatch.Statement (.devAttSync) := ⟨rfl, RowMatch.word _ _ _ _ _⟩
theorem RowMatch.devDetSync : RowMatch.Statement (.devDetSync) := ⟨rfl, RowMatch.word _ _ _ _ _⟩
theorem RowMatch.devAttClr : RowMatch.Statement (.devAttClr) := ⟨rfl, RowMatch.word _ _ _ _ _⟩
theorem RowMatch.devDetClr : RowMatch.Statement (.devDetClr) := ⟨rfl, RowMatch.word _ _ _ _ _⟩
theorem RowMatch.devSyncmode (mode : U16) : RowMatch.Statement (.devSyncmode mode) := ⟨rfl, RowMatch.word _ _ _ _ _⟩
theorem RowMatch.devLdacPulse : RowMatch.Statement (.devLdacPulse) := ⟨rfl, RowMatch.word _ _ _ _ _⟩
theorem RowMatch.devPdmode (mode : U16) : RowMatch.Statement (.devPdmode mode) := ⟨rfl, RowMatch.word _ _ _ _ _⟩
theorem RowMatch.devRstInput : RowMatch.Statement (.devRstInput) := ⟨rfl, RowMatch.word _ _ _ _ _⟩
theorem RowMatch.devRstFactory : RowMatch.Statement (.devRstFactory) := ⟨rfl, RowMatch.word _ _ _ _ _⟩
theorem RowMatch.devClrPulse : RowMatch.Statement (.devClrPulse) := ⟨rfl, RowMatch.word _ _ _ _ _⟩
theorem RowMatch.devWrite (data : U16) (addr cmd : Byte) (cfg : Bool) : RowMatch.Statement (.devWrite data addr cmd cfg) := ⟨rfl, RowMatch.word _ _ _ _ _⟩
theorem RowMatch.devLast : RowMatch.Statement (.devLast) := ⟨rfl, RowMatch.word _ _ _ _ _⟩
theorem RowMatch.oscEn (sel : Byte) : RowMatch.Statement (.oscEn sel) := ⟨rfl, RowMatch.word _ _ _ _ _⟩
theorem RowMatch.oscDis (sel : Byte) : RowMatch.Statement (.oscDis sel) := ⟨rfl, RowMatch.word _ _ _ _ _⟩
theorem RowMatch.oscFreq (sel : Byte) (value : U32) : RowMatch.Statement (.oscFreq sel value) := ⟨rfl, RowMatch.word _ _ _ _ _⟩
theorem RowMatch.oscAmp (sel : Byte) (value : U32) : RowMatch.Statement (.oscAmp sel value) := ⟨rfl, RowMatch.word _ _ _ _ _⟩
theorem RowMatch.oscPhase (sel : Byte) (value : U32) : RowMatch.Statement (.oscPhase sel value) := ⟨rfl, RowMatch.word _ _ _ _ _⟩
theorem RowMatch.oscDc (sel : Byte) (value : U32) : RowMatch.Statement (.oscDc sel value) := ⟨rfl, RowMatch.word _ _ _ _ _⟩
theorem RowMatch.oscKind (sel : Byte) (kind : U16) : RowMatch.Statement (.oscKind sel kind) := ⟨rfl, RowMatch.word _ _ _ _ _⟩
theorem RowMatch.oscTwr (sel : Byte) (code : U16) (index : U32) : RowMatch.Statement (.oscTwr sel code index) := ⟨rfl, RowMatch.word _ _ _ _ _⟩
theorem RowMatch.oscTrd (sel : Byte) (index : U32) : RowMatch.Statement (.oscTrd sel index) := ⟨rfl, RowMatch.word _ _ _ _ _⟩
theorem RowMatch.oscBind (sel : Byte) (slot : U16) : RowMatch.Statement (.oscBind sel slot) := ⟨rfl, RowMatch.word _ _ _ _ _⟩
theorem RowMatch.oscVmode (sel : Byte) (value : U16) : RowMatch.Statement (.oscVmode sel value) := ⟨rfl, RowMatch.word _ _ _ _ _⟩
theorem RowMatch.oscIdx (sel : Byte) : RowMatch.Statement (.oscIdx sel) := ⟨rfl, RowMatch.word _ _ _ _ _⟩
theorem RowMatch.tick : RowMatch.Statement (.tick) := ⟨rfl, RowMatch.word _ _ _ _ _⟩
theorem RowMatch.frameWrInA (data : U16) : RowMatch.Statement (.frameWrInA data) := ⟨rfl, RowMatch.wire _ _ _ rfl⟩
theorem RowMatch.frameWrInB (data : U16) : RowMatch.Statement (.frameWrInB data) := ⟨rfl, RowMatch.wire _ _ _ rfl⟩
theorem RowMatch.frameWrInBoth (data : U16) : RowMatch.Statement (.frameWrInBoth data) := ⟨rfl, RowMatch.wire _ _ _ rfl⟩
theorem RowMatch.frameGain (data : U16) : RowMatch.Statement (.frameGain data) := ⟨rfl, RowMatch.wire _ _ _ rfl⟩
theorem RowMatch.frameUpdA (data : U16) : RowMatch.Statement (.frameUpdA data) := ⟨rfl, RowMatch.wire _ _ _ rfl⟩
theorem RowMatch.frameUpdB (data : U16) : RowMatch.Statement (.frameUpdB data) := ⟨rfl, RowMatch.wire _ _ _ rfl⟩
theorem RowMatch.frameUpdBoth (data : U16) : RowMatch.Statement (.frameUpdBoth data) := ⟨rfl, RowMatch.wire _ _ _ rfl⟩
theorem RowMatch.frameWrUpdAllA (data : U16) : RowMatch.Statement (.frameWrUpdAllA data) := ⟨rfl, RowMatch.wire _ _ _ rfl⟩
theorem RowMatch.frameWrUpdAllB (data : U16) : RowMatch.Statement (.frameWrUpdAllB data) := ⟨rfl, RowMatch.wire _ _ _ rfl⟩
theorem RowMatch.frameWrUpdAllBoth (data : U16) : RowMatch.Statement (.frameWrUpdAllBoth data) := ⟨rfl, RowMatch.wire _ _ _ rfl⟩
theorem RowMatch.frameWrUpdA (data : U16) : RowMatch.Statement (.frameWrUpdA data) := ⟨rfl, RowMatch.wire _ _ _ rfl⟩
theorem RowMatch.frameWrUpdB (data : U16) : RowMatch.Statement (.frameWrUpdB data) := ⟨rfl, RowMatch.wire _ _ _ rfl⟩
theorem RowMatch.frameWrUpdBoth (data : U16) : RowMatch.Statement (.frameWrUpdBoth data) := ⟨rfl, RowMatch.wire _ _ _ rfl⟩
theorem RowMatch.framePower (data : U16) : RowMatch.Statement (.framePower data) := ⟨rfl, RowMatch.wireConfig _ _ _ rfl⟩
theorem RowMatch.frameReset (data : U16) : RowMatch.Statement (.frameReset data) := ⟨rfl, RowMatch.wireConfig _ _ _ rfl⟩
theorem RowMatch.frameLdac (data : U16) : RowMatch.Statement (.frameLdac data) := ⟨rfl, RowMatch.wireConfig _ _ _ rfl⟩
theorem RowMatch.frameIntref (data : U16) : RowMatch.Statement (.frameIntref data) := ⟨rfl, RowMatch.wireConfig _ _ _ rfl⟩

end Sys2Proof.Laws
end

