-- ==== Sys2Proof/Machine/Assembler.lean ====
section
/-! DEFINITION. The assembler syntax of spec/30_encoding.md R116, over operands already read as values, and the
pseudo-instructions of R117. -/

namespace Sys2Proof.Machine

/-- An operand as the assembler reads it (R116): `A` or `B`; a decimal or hex integer; a decimal real; a gain mode or a
kind by name. -/
inductive AsmOperand where
  | slot (s : Slot)
  | int (n : Nat)
  | real (q : Rat)
  | mode (m : GainMode)
  | kind (k : Kind)
deriving DecidableEq, Repr

/-- The SEL of a slot (R107). -/
def slotSel : Slot → Byte
  | .a => 0
  | .b => 1

/-- The number of a gain mode (R107). -/
def gainModeNumber : GainMode → U16
  | .intVref => 0
  | .a1b2 => 1
  | .a2b1 => 2
  | .reset => 3

/-- The number of a kind (R107). -/
def kindNumber : Kind → U16
  | .sine => 0
  | .saw => 1
  | .arb => 2

/-- A slot operand. -/
def asmSlot : AsmOperand → Option Byte
  | .slot s => some (slotSel s)
  | _ => none

/-- An 8-bit integer: an oscillator index, or DEV_WRITE's addr and cmd. -/
def asmByte : AsmOperand → Option Byte
  | .int n => if n < 2 ^ 8 then some (BitVec.ofNat 8 n) else none
  | _ => none

/-- A u16: an integer, or a name of R107. -/
def asmU16 : AsmOperand → Option U16
  | .int n => if n < 2 ^ 16 then some (BitVec.ofNat 16 n) else none
  | .mode m => some (gainModeNumber m)
  | .kind k => some (kindNumber k)
  | .slot .a => some 0
  | .slot .b => some 1
  | .real _ => none

/-- The 24-bit frame of FR_LOAD. -/
def asmU24 : AsmOperand → Option U24
  | .int n => if n < 2 ^ 24 then some (BitVec.ofNat 24 n) else none
  | _ => none

/-- A u32. -/
def asmU32 : AsmOperand → Option U32
  | .int n => if n < 2 ^ 32 then some (BitVec.ofNat 32 n) else none
  | _ => none

/-- A real, assembled to the nearest binary32 word, ties to even. -/
def asmReal : AsmOperand → Option U32
  | .real q => some (rne32 q)
  | _ => none

/-- A flag, 0 or 1. -/
def asmFlag : AsmOperand → Option Bool
  | .int 0 => some false
  | .int 1 => some true
  | _ => none

/-- No operand. -/
def asm0 (i : Instr) : List AsmOperand → Option Instr
  | [] => some i
  | _ => none

/-- One operand. -/
def asm1 {α : Type} (f : α → Instr) (p : AsmOperand → Option α) : List AsmOperand → Option Instr
  | [x] => (p x).map f
  | _ => none

/-- Two operands. -/
def asm2 {α β : Type} (f : α → β → Instr) (p : AsmOperand → Option α) (q : AsmOperand → Option β) :
    List AsmOperand → Option Instr
  | [x, y] => (p x).bind fun a => (q y).map (f a)
  | _ => none

/-- Three operands. -/
def asm3 {α β γ : Type} (f : α → β → γ → Instr) (p : AsmOperand → Option α) (q : AsmOperand → Option β)
    (r : AsmOperand → Option γ) : List AsmOperand → Option Instr
  | [x, y, z] => (p x).bind fun a => (q y).bind fun b => (r z).map (f a b)
  | _ => none

/-- A mnemonic and its operands (R116), in the order of the form of R101, but for OSC_TWR, whose index is written
before the code. -/
def assemble (mnemonic : String) : List AsmOperand → Option Instr :=
  match mnemonic with
  | "FR_CLEAR" => asm0 .frClear
  | "FR_LOAD" => asm1 .frLoad asmU24
  | "FR_SETOFF" => asm1 .frSetoff asmU16
  | "PACK_DATA" => asm1 .packData asmU16
  | "PACK_ADDR" => asm1 .packAddr asmU32
  | "PACK_CMD" => asm1 .packCmd asmU32
  | "UNPACK_DATA" => asm0 .unpackData
  | "UNPACK_ADDR" => asm0 .unpackAddr
  | "UNPACK_CMD" => asm0 .unpackCmd
  | "FR_READ" => asm0 .frRead
  | "CH_SETOUT" => asm3 .chSetout asmSlot asmU16 asmFlag
  | "CH_SETV" => asm3 (fun s v au => .chSetv s au v) asmSlot asmReal asmFlag
  | "CH_GAIN" => asm2 .chGain asmSlot asmU16
  | "CH_UPDATE" => asm1 .chUpdate asmSlot
  | "CH_EN" => asm1 .chEn asmSlot
  | "CH_DIS" => asm1 .chDis asmSlot
  | "CH_D2V" => asm2 .chD2v asmSlot asmU16
  | "CH_V2D" => asm2 .chV2d asmSlot asmReal
  | "DEV_INIT" => asm0 .devInit
  | "DEV_DEFAULT" => asm0 .devDefault
  | "DEV_VREF" => asm1 .devVref asmReal
  | "DEV_INTREF" => asm1 .devIntref asmU16
  | "DEV_ATT_SYNC" => asm0 .devAttSync
  | "DEV_DET_SYNC" => asm0 .devDetSync
  | "DEV_ATT_CLR" => asm0 .devAttClr
  | "DEV_DET_CLR" => asm0 .devDetClr
  | "DEV_SYNCMODE" => asm1 .devSyncmode asmU16
  | "DEV_LDAC_PULSE" => asm0 .devLdacPulse
  | "DEV_PDMODE" => asm1 .devPdmode asmU16
  | "DEV_RST_INPUT" => asm0 .devRstInput
  | "DEV_RST_FACTORY" => asm0 .devRstFactory
  | "DEV_CLR_PULSE" => asm0 .devClrPulse
  | "DEV_WRITE" => fun
    | [d, a, c, g] => (asm3 (fun d a c => .devWrite d a c false) asmU16 asmByte asmByte [d, a, c]).bind fun
        | .devWrite d a c _ => (asmFlag g).map (.devWrite d a c)
        | _ => none
    | _ => none
  | "DEV_LAST" => asm0 .devLast
  | "OSC_EN" => asm1 .oscEn asmByte
  | "OSC_DIS" => asm1 .oscDis asmByte
  | "OSC_FREQ" => asm2 .oscFreq asmByte asmReal
  | "OSC_AMP" => asm2 .oscAmp asmByte asmReal
  | "OSC_PHASE" => asm2 .oscPhase asmByte asmReal
  | "OSC_DC" => asm2 .oscDc asmByte asmReal
  | "OSC_KIND" => asm2 .oscKind asmByte asmU16
  | "OSC_TWR" => asm3 (fun o i code => .oscTwr o code i) asmByte asmU32 asmU16
  | "OSC_TRD" => asm2 .oscTrd asmByte asmU32
  | "OSC_BIND" => asm2 .oscBind asmByte asmU16
  | "OSC_VMODE" => asm2 .oscVmode asmByte asmU16
  | "OSC_IDX" => asm1 .oscIdx asmByte
  | "TICK" => asm0 .tick
  | _ => fun _ => none

/-- The signals of the source's command tuples: `sin` is oscillator 0, `saw` oscillator 1 (R117). -/
inductive Signal where
  | sin
  | saw
deriving DecidableEq, Repr

/-- The oscillator of a signal. -/
def signalOsc : Signal → Byte
  | .sin => 0
  | .saw => 1

/-- The pseudo-instructions of R117. -/
inductive Pseudo where
  | setOut (s : Slot) (code : U16)
  | setV (s : Slot) (volts : Rat)
  | oscSine (o : Byte)
  | oscSaw (o : Byte)
  | oscArb (o : Byte)
  /-- a command tuple of the source; its second value has no meaning the spec gives (91_not_in_source.md N30) -/
  | tuple (command : String) (signal : Signal) (value1 : Rat)
deriving DecidableEq, Repr

/-- The expansions of R117. `en` with a value other than 0 or 1, the sweep commands and any other command have none. -/
def Pseudo.expand : Pseudo → Option Instr
  | .setOut s code => some (.chSetout (slotSel s) code false)
  | .setV s volts => some (.chSetv (slotSel s) false (rne32 volts))
  | .oscSine o => some (.oscKind o (kindNumber .sine))
  | .oscSaw o => some (.oscKind o (kindNumber .saw))
  | .oscArb o => some (.oscKind o (kindNumber .arb))
  | .tuple "en" sig x =>
    if x = 1 then some (.oscEn (signalOsc sig)) else if x = 0 then some (.oscDis (signalOsc sig)) else none
  | .tuple "amp" sig x => some (.oscAmp (signalOsc sig) (rne32 x))
  | .tuple "freq" sig x => some (.oscFreq (signalOsc sig) (rne32 x))
  | .tuple "ph" sig x => some (.oscPhase (signalOsc sig) (rne32 x))
  | .tuple "dc" sig x => some (.oscDc (signalOsc sig) (rne32 x))
  | .tuple _ _ _ => none

end Sys2Proof.Machine
end

