-- ==== Sys2Proof/Tests/Slice0.lean ====
section
/-! SUPPORT. The model's own tests. Expected values come from spec/95_test_vectors.md (the vector's number is cited) or
from the encoding tables of spec/30_encoding.md. Three parts: the checks of WellFormed and the decoding of every
constructor; single steps; and, for every obligation with hypotheses, a state and operands that meet them. -/

namespace Sys2Proof.Tests

open Sys2Proof Sys2Proof.Machine

/-! ### Well-formedness: one term refused by each check -/

theorem test_wf_slot :
    ([.chSetout 2 0 true, .chSetv 2 true 0, .chGain 2 0, .chUpdate 255, .chEn 2, .chDis 2, .chD2v 2 0,
      .chV2d 2 0] : List Instr).map Instr.wellFormed = List.replicate 8 false := by decide

theorem test_wf_enumerations :
    ([.chGain 0 4, .oscKind 0 3, .oscBind 0 2] : List Instr).map Instr.wellFormed = List.replicate 3 false := by decide

theorem test_wf_frames :
    ([.frameGain 4, .frameUpdA 1, .frameUpdB 1, .frameUpdBoth 0x8000, .framePower 4, .frameReset 2, .frameLdac 4,
      .frameIntref 2] : List Instr).map Instr.wellFormed = List.replicate 8 false := by decide

theorem test_wf_accepts :
    ([.chSetout 1 0x1000 true, .chGain 0 3, .oscKind 9 2, .oscBind 9 1, .framePower 0x33, .frameLdac 3, .tick]
      : List Instr).map Instr.wellFormed = List.replicate 7 true := by decide

/-! ### Decoding: every row of the opcode table, from words written out field by field (R80, R100 to R102) -/

/-- The words and the instructions they stand for agree. -/
def decodesTo (nbits : Nat) (rows : List (Nat × Instr)) : Bool := rows.all fun r => decodeTableWord nbits r.1 == some r.2

theorem test_decode_codec : decodesTo 64
    [(0x0100000000000000, .frClear), (0x02000000AB123456, .frLoad 0x123456), (0x0300000900000000, .frSetoff 9),
     (0x04003FFF00000000, .packData 0x3FFF), (0x0500000000000009, .packAddr 9), (0x0600000000000064, .packCmd 100),
     (0x0700000000000000, .unpackData), (0x0800000000000000, .unpackAddr), (0x0900000000000000, .unpackCmd),
     (0x0A00000000000000, .frRead)] = true := by decide

theorem test_decode_channel : decodesTo 64
    [(0x10002000FFFFFFFE, .chSetout 0 0x2000 false), (0x1001100000000001, .chSetout 1 0x1000 true),
     (0x110000013FA00000, .chSetv 0 true 0x3FA00000), (0x1201000100000000, .chGain 1 1),
     (0x1301000000000000, .chUpdate 1), (0x1402000000000000, .chEn 2), (0x1500000000000000, .chDis 0),
     (0x16003FFF00000000, .chD2v 0 0x3FFF), (0x170000003FA00000, .chV2d 0 0x3FA00000)] = true := by decide

theorem test_decode_device : decodesTo 64
    [(0x2000000000000000, .devInit), (0x2100000000000000, .devDefault), (0x2200000040E00000, .devVref 0x40E00000),
     (0x2300000200000000, .devIntref 2), (0x2400000000000000, .devAttSync), (0x2500000000000000, .devDetSync),
     (0x2600000000000000, .devAttClr), (0x2700000000000000, .devDetClr), (0x2800000500000000, .devSyncmode 5),
     (0x2900000000000000, .devLdacPulse), (0x2A00000300000000, .devPdmode 3), (0x2B00000000000000, .devRstInput),
     (0x2C00000000000000, .devRstFactory), (0x2D00000000000000, .devClrPulse),
     (0x2E00123400010301, .devWrite 0x1234 1 3 true), (0x2F00000000000000, .devLast)] = true := by decide

theorem test_decode_oscillator : decodesTo 64
    [(0x3000000000000000, .oscEn 0), (0x3101000000000000, .oscDis 1), (0x32000000437A0000, .oscFreq 0 0x437A0000),
     (0x330000003F000000, .oscAmp 0 0x3F000000), (0x34000000BF000000, .oscPhase 0 0xBF000000),
     (0x35000000C0000000, .oscDc 0 0xC0000000), (0x3600000300000000, .oscKind 0 3),
     (0x3701012C00000003, .oscTwr 1 300 3), (0x3800000000000004, .oscTrd 0 4), (0x3900000200000000, .oscBind 0 2),
     (0x3A00000100000000, .oscVmode 0 1), (0x3B01000000000000, .oscIdx 1), (0x4000000000000000, .tick)] = true := by
  decide

theorem test_decode_frames : decodesTo 24
    [(0x008000, .frameWrInA 0x8000), (0x018000, .frameWrInB 0x8000), (0x070001, .frameWrInBoth 1),
     (0x020001, .frameGain 1), (0x080000, .frameUpdA 0), (0x090000, .frameUpdB 0), (0x0F0000, .frameUpdBoth 0),
     (0x100001, .frameWrUpdAllA 1), (0x110001, .frameWrUpdAllB 1), (0x170001, .frameWrUpdAllBoth 1),
     (0x188000, .frameWrUpdA 0x8000), (0x194000, .frameWrUpdB 0x4000), (0x1F0001, .frameWrUpdBoth 1),
     (0x200011, .framePower 0x11), (0x280001, .frameReset 1), (0x300003, .frameLdac 3), (0x380001, .frameIntref 1)]
    = true := by decide

theorem test_decode_refuses :
    ([0x00, 0x0B, 0x0F, 0x18, 0x1F, 0x3C, 0x3F, 0x41, 0xFF] : List Nat).all
      (fun op => decode (.word (BitVec.ofNat 64 (op * 2 ^ 56))) == .error (.unassignedOpcode (BitVec.ofNat 8 op)))
    = true := by decide

theorem test_decode_refuses_frames :
    ([(0, 3), (0, 6), (1, 2), (3, 2), (3, 6)] : List (Nat × Nat)).all
      (fun r => decode (.frame (BitVec.ofNat 24 (r.1 * 2 ^ 19 + r.2 * 2 ^ 16))) ==
        .error (.reservedFrame (BitVec.ofNat 3 r.1) (BitVec.ofNat 3 r.2))) = true := by decide

/-- The rows the decoder's instructions belong to are those of spec/opcode_table.json. -/
theorem test_rows : opcodeRows.length = 64 ∧ rowOf .tick ∈ opcodeRows ∧ rowOf (.frameIntref 0) ∈ opcodeRows := by decide

/-! ### Single steps -/

/-- The step goes on, and its next state meets the check. -/
def goesTo (r : Result) (p : State → Bool) : Bool :=
  match r with
  | .next t => p t
  | _ => false

theorem goesTo_elim {r : Result} {p : State → Bool} (h : goesTo r p = true) : ∃ t, r = .next t ∧ p t = true := by
  cases r with
  | next t => exact ⟨t, rfl, h⟩
  | fault _ => cases h
  | refused _ => cases h

/-- The parameters of spec/95_test_vectors.md section 0. -/
def testConfig : Config := { Config.default with sps := 1000 }

/-- An oscillator of section 0 before any word, with this table. -/
def testOsc (kind : Kind) (bind : Slot) (table : List U16) : Osc :=
  { Osc.blank 4 with amp := 1, kind := kind, bind := bind, table := table }

/-- The state after reset that 95_test_vectors.md section 0 writes out, with these bus draws to come. -/
def fresh (bus : List Bool) : State where
  cfg := testConfig
  fr := ⟨0, 0, 0, 2⟩
  vref := 5 / 2
  intrefEn := false
  pdMode := 1
  ldacMode := 0
  syncAtt := false
  clrAtt := false
  lastFrame := 0
  fault := .none
  chA := ⟨.one, false⟩
  chB := ⟨.one, false⟩
  oscs := [testOsc .sine .a [8192, 16383, 8192, 0], testOsc .saw .b [0, 4096, 8192, 12287]]
  evlog := []
  pc := 0
  resp := none
  stream := []
  inputs := []
  bus := bus
  busDrawn := 0

/-- A sine table of four entries: `SIN_EXACT` (R8) gives the samples 0, 1, 0, -1. -/
theorem regen_quarters (fullScale : Nat) (o : Osc) (hk : o.kind = .sine) (hs : o.size = 4) :
    (o.regen fullScale).table = ([0, 1, 0, -1] : List Rat).map (tableEntry fullScale o.amp o.dc) := by
  have h0 : Config.sin 0 4 = 0 := Config.sin_exact 0 4 0 (by decide) (by decide)
  have h1 : Config.sin 1 4 = 1 := Config.sin_exact 1 4 1 (by decide) (by decide)
  have h2 : Config.sin 2 4 = 0 := Config.sin_exact 2 4 2 (by decide) (by decide)
  have h3 : Config.sin 3 4 = -1 := Config.sin_exact 3 4 3 (by decide) (by decide)
  unfold Osc.regen
  rw [hk]
  simp [hs, List.range_succ, h0, h1, h2, h3]

/-- The block goes on with this response. -/
def answers (i : Instr) (s : State) (status : Status) (value : RespValue) : Bool :=
  goesTo (exec i s) fun t => t.resp == some ⟨status, value⟩ && t.pc == s.pc + 1

/-- The block sends these frames, and nothing else, and goes on. -/
def sends (i : Instr) (s : State) (frames : List U24) : Bool :=
  goesTo (exec i s) fun t => t.fault == .none &&
    t.evlog == s.evlog ++ frames.map fun f => .frame (f.extractLsb' 16 8) (f.extractLsb' 8 8) (f.extractLsb' 0 8)

/-- The block faults with this code and sends nothing. -/
def faults (i : Instr) (s : State) (code : FaultCode) : Bool :=
  goesTo (exec i s) fun t => t.fault == code && t.pc == s.pc && t.evlog == s.evlog && t.resp == s.resp

/-- Fresh with a scratch frame. -/
def withFr (b0 b1 b2 : Byte) (off : Fin 5) : State := { fresh [] with fr := ⟨b0, b1, b2, off⟩ }

/-- Fresh with a changed oscillator 0, all draws true. -/
def withOsc (f : Osc → Osc) : State :=
  { fresh [true, true, true] with oscs := (fresh []).oscs.set 0 (f ((fresh []).oscs.headD (Osc.blank 4))) }

/-- Codec words, K1 to K14: the frame after a step. -/
def leavesFr (i : Instr) (s : State) (b0 b1 b2 : Byte) (off : Fin 5) : Bool :=
  goesTo (exec i s) fun t => t.fr == ⟨b0, b1, b2, off⟩ && t.resp == some ⟨.ok, .none⟩ && t.pc == s.pc + 1

theorem test_frClear_K1 : leavesFr .frClear (withFr 0xC7 0x12 0x34 2) 0 0 0 2 = true := by decide +kernel
theorem test_frLoad_K2 : leavesFr (.frLoad 0xC23456) (withFr 0 0 0 2) 0xC2 0x34 0x56 2 = true := by decide +kernel
theorem test_frSetoff_K3 : leavesFr (.frSetoff 9) (withFr 0 0 0 2) 0 0 0 4 = true := by decide +kernel
theorem test_packData_K4 : leavesFr (.packData 0x3FFF) (withFr 7 0 0 2) 7 0xFF 0xFC 2 = true := by decide +kernel
theorem test_packAddr_K6 : leavesFr (.packAddr 9) (withFr 0x18 0 0 2) 0x1F 0 0 2 = true := by decide +kernel
theorem test_packAddr_K7 : leavesFr (.packAddr 0xFFFFFFFF) (withFr 0 0 0 2) 7 0 0 2 = true := by decide +kernel
theorem test_packCmd_K8 : leavesFr (.packCmd 3) (withFr 7 0 0 2) 0x1F 0 0 2 = true := by decide +kernel
theorem test_packCmd_K10 : leavesFr (.packCmd 5) (withFr 0xC2 0 0 2) 0xEA 0 0 2 = true := by decide +kernel
theorem test_unpackData_K13 : answers .unpackData (withFr 0 0xFF 0xFC 2) .ok (.u16 0xFFFC) = true := by decide +kernel
theorem test_unpackAddr_K11 : answers .unpackAddr (withFr 0xC2 0 0 2) .ok (.u3 2) = true := by decide +kernel
theorem test_unpackCmd_K12 : answers .unpackCmd (withFr 0x39 0 0 2) .ok (.u3 7) = true := by decide +kernel
theorem test_frRead_P5 : answers .frRead (withFr 0x1F 0xFF 0xFC 2) .ok (.u24 0x1FFFFC) = true := by decide +kernel

theorem test_chSetout_H12 : sends (.chSetout 1 0x1000 true) (fresh [true]) [0x194000] = true := by decide +kernel
theorem test_chSetout_H13 : sends (.chSetout 0 0x4000 false) (fresh [true]) [0x000000] = true := by decide +kernel
theorem test_chSetv_H2_H3 : sends (.chSetv 0 true 0x3FA00000) (fresh [true]) [0x188000] = true ∧
    sends (.chSetv 0 false 0xBFA00000) (fresh [true]) [0x008000] = true := by decide +kernel
theorem test_chSetv_H7_H10 : faults (.chSetv 0 false 0x7FC00000) (fresh []) .nonfinite = true ∧
    faults (.chSetv 0 false 0x3FA00000) { fresh [] with vref := 0 } .div0 = true := by decide +kernel
theorem test_chGain_H15_H16 :
    goesTo (exec (.chGain 1 1) (fresh [true])) (fun t => t.chA.gain == .one && t.chB.gain == .two) = true ∧
    goesTo (exec (.chGain 0 1) (fresh [true])) (fun t => t.chA.gain == .one && t.chB.gain == .one) = true := by
  decide +kernel
theorem test_chGain_H17 : answers (.chGain 0 4) (fresh []) .ign .none = true := by decide +kernel
theorem test_chUpdate_H19 : sends (.chUpdate 1) (fresh [true]) [0x090000] = true := by decide +kernel
theorem test_chEn_H22 : sends (.chEn 1) (fresh [true]) [0x200002] = true ∧
    goesTo (exec (.chEn 1) (fresh [true])) (fun t => t.chB.en && !t.chA.en) = true := by decide +kernel
theorem test_chEn_X6 : goesTo (exec (.chEn 0) (fresh [false])) (fun t => t.fault == .bus && !t.chA.en && t.evlog == [])
    = true := by decide +kernel
theorem test_chDis_H23_H24 : sends (.chDis 0) (fresh [true]) [0x200011] = true ∧
    sends (.chDis 1) { fresh [true] with pdMode := 3 } [0x200032] = true := by decide +kernel
theorem test_chD2v_H27_H28 :
    answers (.chD2v 0 16383) { fresh [] with chA := ⟨.two, false⟩ } .ok (.binary32 0x40A00000) = true ∧
    answers (.chD2v 0 8192) (fresh []) .ok (.binary32 0x3FA00280) = true := by decide +kernel
theorem test_chV2d_H30_H31 :
    answers (.chV2d 0 0x3FA00000) { fresh [] with chA := ⟨.two, false⟩ } .ok (.u16 4096) = true ∧
    answers (.chV2d 0 0x3FA00000) (fresh []) .ok (.u16 8192) = true := by decide +kernel
theorem test_invalid_identity_H9_H34 :
    answers (.chSetv 0 false 0x7FC00000) { fresh [] with cfg := { testConfig with chanIdA := 9 } } .ign .none = true ∧
    answers (.chSetout 1 1 true) { fresh [] with cfg := { testConfig with chanIdB := 7 } } .ign .none = true := by
  decide +kernel

theorem test_devInit_V2 : sends .devInit (fresh (List.replicate 6 true))
    [0x200011, 0x200012, 0x300003, 0x380001, 0x020000, 0x020000] = true := by decide +kernel
theorem test_devDefault_V3 : goesTo (exec .devDefault { fresh (List.replicate 6 true) with pdMode := 3 }) (fun t =>
    t.pdMode == 1 && t.ldacMode == 3 && t.intrefEn && t.chA == ⟨.two, false⟩ && t.chB == ⟨.two, false⟩) = true := by
  decide +kernel
theorem test_devDefault_X5 : goesTo (exec .devDefault (fresh [true, true, false])) (fun t =>
    t.fault == .bus && t.lastFrame == 0x200012 && t.ldacMode == 0 && t.pc == 0 && t.chA.gain == .one) = true := by
  decide +kernel
theorem test_devVref_V6_V7 :
    goesTo (exec (.devVref 0x40E00000) (fresh [])) (fun t => decide (t.vref = 5)) = true ∧
    goesTo (exec (.devVref 0xBF800000) (fresh [])) (fun t => decide (t.vref = 0)) = true := by decide +kernel
theorem test_devIntref_V9_V11 : sends (.devIntref 2) (fresh [true, true, true]) [0x380000, 0x020003, 0x020003] = true ∧
    sends (.devIntref 1) (fresh [true, true, true]) [0x380001, 0x020000, 0x020000] = true := by decide +kernel
theorem test_devLines_V14_V15 :
    goesTo (exec .devLdacPulse (fresh [])) (fun t => t.evlog == []) = true ∧
    goesTo (exec .devLdacPulse { fresh [] with syncAtt := true }) (fun t => t.evlog == [.pulse .ldac]) = true ∧
    goesTo (exec .devClrPulse { fresh [] with clrAtt := true }) (fun t => t.evlog == [.pulse .clr]) = true := by
  decide +kernel
theorem test_devAttDet_V15_V16 :
    goesTo (exec .devAttSync (fresh [])) (fun t => t.syncAtt && !t.clrAtt) = true ∧
    goesTo (exec .devDetSync { fresh [] with syncAtt := true }) (fun t => !t.syncAtt) = true ∧
    goesTo (exec .devAttClr (fresh [])) (fun t => t.clrAtt && !t.syncAtt) = true ∧
    goesTo (exec .devDetClr { fresh [] with clrAtt := true }) (fun t => !t.clrAtt) = true := by decide +kernel
theorem test_devSyncmode_V12 : sends (.devSyncmode 5) (fresh [true]) [0x300003] = true ∧
    goesTo (exec (.devSyncmode 5) (fresh [true])) (fun t => t.ldacMode == 3) = true := by decide +kernel
theorem test_devPdmode_H25 : goesTo (exec (.devPdmode 2) (fresh [])) (fun t => t.pdMode == 2) = true := by
  decide +kernel
theorem test_devResets_V17 : sends .devRstInput (fresh [true]) [0x280000] = true ∧
    sends .devRstFactory (fresh [true]) [0x280001] = true := by decide +kernel
theorem test_devWrite : sends (.devWrite 0x1234 1 3 true) (fresh [true]) [0x191234] = true ∧
    sends (.devWrite 0x0001 9 200 false) (fresh [true]) [0x3F0004] = true := by decide +kernel
theorem test_devLast : answers .devLast { fresh [] with lastFrame := 0x020000 } .ok (.u24 0x020000) = true := by
  decide +kernel

/-- The table of oscillator 0 or 1 after a step. -/
def leavesTable (i : Instr) (s : State) (o : Nat) (table : List U16) : Bool :=
  goesTo (exec i s) fun t => (t.oscs[o]?.map Osc.table) == some table

/-- Section 0 and W1: the tables after reset, and with them its whole state. -/
theorem test_reset_W1 (bus : List Bool) :
    State.atReset testConfig [Osc.blank 4, Osc.blank 4] [] [] bus 0 = fresh bus := by
  have h0 : Osc.atReset 16383 0 (List.replicate 4 0) = testOsc .sine .a [8192, 16383, 8192, 0] := by
    have ht := regen_quarters 16383 (testOsc .sine .a (List.replicate 4 0)) rfl rfl
    have he : ([0, 1, 0, -1] : List Rat).map (tableEntry 16383 1 0) = [8192, 16383, 8192, 0] := by decide +kernel
    have hd : Osc.atReset 16383 0 (List.replicate 4 0) = (testOsc .sine .a (List.replicate 4 0)).regen 16383 := rfl
    rw [hd, Osc.regen_eq, ht]
    exact congrArg (testOsc .sine .a) he
  have h1 : Osc.atReset 16383 1 (List.replicate 4 0) = testOsc .saw .b [0, 4096, 8192, 12287] := by decide +kernel
  have hl : ([Osc.blank 4, Osc.blank 4].zipIdx.map fun p => Osc.atReset 16383 p.2 p.1.table) = (fresh bus).oscs := by
    show [Osc.atReset 16383 0 (List.replicate 4 0), Osc.atReset 16383 1 (List.replicate 4 0)] = _
    rw [h0, h1]; rfl
  unfold State.atReset
  rw [show testConfig.fullScale = 16383 from rfl, hl]
  rfl

/-- The regenerated sine table of an oscillator word, its samples known by `SIN_EXACT`. -/
theorem leavesTable_sine (i : Instr) (s t : State) (o : Nat) (osc : Osc) (table : List U16) (h : exec i s = .next t)
    (ho : t.oscs[o]? = some (osc.regen 16383)) (hk : osc.kind = .sine) (hs : osc.size = 4)
    (ht : ([0, 1, 0, -1] : List Rat).map (tableEntry 16383 osc.amp osc.dc) = table) :
    leavesTable i s o table = true := by
  simp [leavesTable, goesTo, h, ho, regen_quarters 16383 osc hk hs, ht]

/-- OSC_DC on oscillator 0 with a finite operand. -/
theorem oscDc_fresh (w : U32) (q : Rat) (h : f32 w = some q) : exec (.oscDc 0 w) (fresh []) = .next
    (((fresh []).setOsc 0 (Osc.regen 16383
      { testOsc .sine .a [8192, 16383, 8192, 0] with dc := clampRat q (-1) 1 })).ok .none) := by
  show State.oscWord (fresh []) 0 _ = _
  simp only [State.oscWord, State.control, State.andThen, State.withReal, h]
  rfl

/-- OSC_AMP on oscillator 0 with a finite operand. -/
theorem oscAmp_fresh (w : U32) (q : Rat) (h : f32 w = some q) : exec (.oscAmp 0 w) (fresh []) = .next
    (((fresh []).setOsc 0 (Osc.regen 16383
      { testOsc .sine .a [8192, 16383, 8192, 0] with amp := clampRat q 0 1 })).ok .none) := by
  show State.oscWord (fresh []) 0 _ = _
  simp only [State.oscWord, State.control, State.andThen, State.withReal, h]
  rfl

theorem test_oscDc_W2 : leavesTable (.oscDc 0 0x3F000000) (fresh []) 0 [12287, 16383, 12287, 4096] = true :=
  leavesTable_sine _ _ _ _ _ _ (oscDc_fresh _ (1 / 2) (by decide +kernel)) rfl rfl rfl (by decide +kernel)
theorem test_oscDc_W3 : leavesTable (.oscDc 0 0xC0000000) (fresh []) 0 [0, 8192, 0, 0] = true :=
  leavesTable_sine _ _ _ _ _ _ (oscDc_fresh _ (-2) (by decide +kernel)) rfl rfl rfl (by decide +kernel)
theorem test_oscAmp_W5 : leavesTable (.oscAmp 0 0x3F000000) (fresh []) 0 [8192, 12287, 8192, 4096] = true :=
  leavesTable_sine _ _ _ _ _ _ (oscAmp_fresh _ (1 / 2) (by decide +kernel)) rfl rfl rfl (by decide +kernel)
theorem test_oscAmp_W9 : leavesTable (.oscAmp 0 0) (withOsc fun o => { o with kind := .arb }) 0 [8192, 16383, 8192, 0]
    = true := by decide +kernel
theorem test_oscKind_W11 : leavesTable (.oscKind 1 0) (fresh []) 1 [8192, 16383, 8192, 0] = true :=
  leavesTable_sine _ _ _ _ { testOsc .saw .b [0, 4096, 8192, 12287] with kind := .sine } _ rfl rfl rfl rfl
    (by decide +kernel)
theorem test_oscKind_W10 : answers (.oscKind 0 3) (fresh []) .ign .none = true := by decide +kernel
theorem test_oscPhase_W12_W13 :
    goesTo (exec (.oscPhase 0 0xBF000000) (fresh [])) (fun t => t.oscs[0]?.map Osc.ph == some (7 / 2)) = true ∧
    goesTo (exec (.oscPhase 0 0x41100000) (fresh [])) (fun t => t.oscs[0]?.map Osc.ph == some 1) = true := by
  decide +kernel
theorem test_oscFreq_W20 :
    goesTo (exec (.oscFreq 0 0xC37A0000) (fresh [])) (fun t => t.oscs[0]?.map Osc.freq == some (-250)) = true := by
  decide +kernel
theorem test_oscTwr_W14 : answers (.oscTwr 0 5 4) (fresh []) .ign .none = true := by decide +kernel
theorem test_oscTwr_W16 : leavesTable (.oscTwr 1 300 3) (fresh []) 1 [0, 4096, 8192, 300] = true := by decide +kernel
theorem test_oscTrd_W15 : answers (.oscTrd 0 4) (fresh []) .ign .none = true ∧
    answers (.oscTrd 1 3) (fresh []) .ok (.u16 12287) = true := by decide +kernel
theorem test_oscBind_W17 : answers (.oscBind 0 2) (fresh []) .ign .none = true ∧
    goesTo (exec (.oscBind 1 0) (fresh [])) (fun t => t.oscs.map Osc.bind == [.a, .a]) = true := by decide +kernel
theorem test_oscVmode : goesTo (exec (.oscVmode 0 3) (fresh [])) (fun t => t.oscs.map Osc.vmode == [true, false]) = true ∧
    goesTo (exec (.oscVmode 0 2) (withOsc fun o => { o with vmode := true })) (fun t => t.oscs.map Osc.vmode ==
      [false, false]) = true := by decide +kernel
theorem test_oscEn_oscDis : goesTo (exec (.oscEn 1) (fresh [])) (fun t => t.oscs.map Osc.run == [false, true]) = true ∧
    goesTo (exec (.oscDis 0) (withOsc fun o => { o with run := true, idx := 2 }))
      (fun t => t.oscs.map Osc.run == [false, false] && t.oscs.map Osc.idx == [2, 0]) = true := by decide +kernel
theorem test_oscIdx : answers (.oscIdx 0) (withOsc fun o => { o with idx := 3 }) .ok (.u16 3) = true := by decide +kernel
theorem test_tick_W18 : sends .tick (withOsc fun o => { o with run := true, ph := 1 / 2 }) [0x18C000] = true := by
  decide +kernel
theorem test_tick_W20 : goesTo (exec .tick (withOsc fun o => { o with run := true, freq := -250 }))
    (fun t => t.oscs.map Osc.idx == [3, 0] && t.resp == some ⟨.ok, .u24 0x188000⟩) = true := by decide +kernel

/-- W29: the accumulator has advanced before the frame that fails; nothing is sent. -/
theorem test_tick_W29 : faults .tick { fresh [false] with oscs := (fresh []).oscs.map fun o =>
      { o with freq := 250, run := o.bind == .a } } .bus = true ∧
    goesTo (exec .tick { fresh [false] with oscs := (fresh []).oscs.map fun o =>
      { o with freq := 250, run := o.bind == .a } }) (fun t => t.oscs.map Osc.idx == [1, 0]) = true := by decide +kernel
/-- W30: a fault in oscillator 1 leaves oscillator 0's frame and both accumulators advanced. -/
theorem test_tick_W30 : goesTo (exec .tick { fresh [true, true] with vref := 0, oscs := (fresh []).oscs.map fun o =>
      { o with freq := 250, run := true, vmode := o.bind == .b } })
    (fun t => t.fault == .div0 && t.evlog == [.frame 0x18 0x80 0x00] && t.oscs.map Osc.idx == [1, 1] && t.pc == 0) = true
    := by decide +kernel

theorem test_frames : sends (.frameGain 1) (fresh [true]) [0x020001] = true ∧
    sends (.frameWrUpdB 0x4000) (fresh [true]) [0x194000] = true ∧
    sends (.framePower 0x0011) (fresh [true]) [0x200011] = true ∧
    sends (.frameIntref 1) (fresh [true]) [0x380001] = true := by decide +kernel

/-- A reserved encoding is sent by DEV_WRITE (R94), and by nothing else (R69; log entry 11). -/
theorem test_reserved_frame : sends (.devWrite 0x1234 3 0 true) (fresh [true]) [0x031234] = true ∧
    goesTo (step { fresh [true] with inputs := [.frame 0xC31234] }) (fun t => t.evlog == [] && t.bus == [true]) = true := by
  decide +kernel

/-- The first instruction after reset is the one that `withFetchWord` places (log entry 6): V4's word, and a frame. -/
theorem test_withFetchWord :
    goesTo (step (State.reset.withFetchWord 64 0x2F00000000000000)) (fun t => t.resp == some ⟨.ok, .u24 0⟩ && t.pc == 1)
      = true ∧
    step (State.reset.withFetchWord 24 0x020001) = exec (.frameGain 1) State.reset := ⟨by decide +kernel, rfl⟩

/-- H1's line, assembled (R116): the operands in the order of the form. -/
theorem test_assemble : (assemble "CH_SETV" [.slot .a, .real (5 / 4), .int 0]).map encode =
    some (.word 0x110000003FA00000) ∧
    (assemble "OSC_TWR" [.int 1, .int 3, .int 300]).map encode = some (.word 0x3701012C00000003) ∧
    assemble "CH_EN" [.int 0] = none := by decide +kernel

/-- R117. -/
theorem test_pseudo : Pseudo.expand (.tuple "freq" .saw 250) = some (.oscFreq 1 0x437A0000) ∧
    Pseudo.expand (.tuple "en" .sin 1) = some (.oscEn 0) ∧ Pseudo.expand (.tuple "en" .sin 2) = none := by
  decide +kernel

/-- R301 at the converter: one GAIN frame sets both channels' gain. -/
theorem test_converter : (converterAfter [.frame 0x02 0x00 0x03]).gain = some 3 ∧
    (converterAfter [.frame 0x18 0x80 0x00]).outputA = some 0x8000 ∧
    (converterAfter [.frame 0x18 0x80 0x00]).outputB = none := by decide

/-- Data the rules do not describe leave the register they name unknown (log entry 16). -/
theorem test_converter_unknown :
    (converterAfter [.frame 0x02 0x00 0x03, .frame 0x02 0x00 0x04]).gain = none ∧
    (converterAfter [.frame 0x20 0x00 0x11, .frame 0x20 0x01 0x11]).powerA = none ∧
    (converterAfter [.frame 0x30 0x00 0x03, .frame 0x30 0x00 0x07]).ldac = none ∧
    (converterAfter [.frame 0x38 0x00 0x01, .frame 0x38 0x00 0x02]).reference = none := by decide

/-- Another `CMDCODE` (R9) changes the bytes sent and nothing else. -/
theorem test_other_codes :
    sends (.chEn 1) { fresh [true] with cfg := { testConfig with cmd :=
      { CmdCode.dac8562 with powerData := #v[0, 0x80, 0, 0, 0, 0, 0, 0] } } } [0x200080] = true ∧
    sends (.devSyncmode 3) { fresh [true] with cfg := { testConfig with cmd :=
      { CmdCode.dac8562 with ldacData := #v[0, 0, 0, 0x0300] } } } [0x300300] = true := by decide +kernel

/-! ### Witnesses: a state and operands that meet the hypotheses of each statement, clause by clause -/

/-- Every exchange to come completes. -/
def ready : State := fresh (List.replicate 8 true)

/-- The next exchange fails. -/
def dead : State := fresh [false]

/-- `ready` with these inputs offered and this control stream. -/
def offered (inputs : List Input) (stream : List ControlWord) : State := { ready with inputs := inputs, stream := stream }

/-- `ready` with both oscillators Running, oscillator 0 with a step of 1. -/
def running : State :=
  { ready with oscs := ready.oscs.map fun o => { o with run := true, freq := 250 } }

theorem ready_ok : ready.Ok := by decide +kernel

theorem ready_codes : ready.DefaultCodes := rfl

theorem ready_ids : ready.DefaultIds := ⟨rfl, rfl⟩

theorem ready_selects : ready.Selects 0 .a ∧ ready.Selects 1 .b := ⟨⟨rfl, rfl⟩, ⟨rfl, rfl⟩⟩

theorem witness_UnusedBitsAreIgnored :
    ¬ unassigned (opField 0x01FFFFFFFFFFFFFF).toNat ∧ ¬ unassigned (opField 0x4000000000000001).toNat := by
  unfold unassigned; decide

theorem witness_UnassignedOpcodeIsIgnored :
    ∀ op ∈ [0x00, 0x0B, 0x0F, 0x18, 0x1F, 0x3C, 0x3F, 0x41, 0xFF],
      (offered [.word] [BitVec.ofNat 64 (op * 2 ^ 56)]).inputs = .word :: [] ∧
      (offered [.word] [BitVec.ofNat 64 (op * 2 ^ 56)]).fault = .none ∧
      (offered [.word] [BitVec.ofNat 64 (op * 2 ^ 56)]).stream[(offered [.word] [BitVec.ofNat 64 (op * 2 ^ 56)]).pc]? =
        some (BitVec.ofNat 64 (op * 2 ^ 56)) ∧
      unassigned (opField (BitVec.ofNat 64 (op * 2 ^ 56))).toNat := by
  intro op hop
  refine ⟨rfl, rfl, rfl, ?_⟩
  revert op
  unfold unassigned
  decide

theorem witness_OpcodeRowsDoNotOverlap :
    (Row.control "FR_CLEAR" 0x01).bits = (Row.control "FR_LOAD" 0x02).bits ∧
    rowFits (Row.control "FR_CLEAR" 0x01) 0x0100000000000000 := by unfold rowFits; decide

theorem witness_StepRunsTheDecodedInstruction :
    ((offered [.word] [0x2F00000000000000]).inputs = .word :: [] ∧
      (offered [.word] [0x2F00000000000000]).stream[0]? = some 0x2F00000000000000 ∧
      decode (.word 0x2F00000000000000) = .ok .devLast) ∧
    ((offered [.frame 0x020001] []).inputs = .frame 0x020001 :: [] ∧ decode (.frame 0x020001) = .ok (.frameGain 1)) :=
  ⟨⟨rfl, rfl, by decide⟩, rfl, by decide⟩

theorem witness_OfferedWordIsTheNextToRun :
    decode (.word (BitVec.ofNat 64 0x2F00000000000000)) = .ok .devLast ∧
    (1 : Nat) ≠ (offered [] [0, 5]).pc ∧ (offered [] [0, 5]).stream[1]? = some 5 := by decide +kernel

theorem witness_OnlyResetLeavesTheFaultState :
    ({ offered [.tick] [] with fault := .bus } : State).fault ≠ .none ∧
    (∀ x ∈ [Input.word, .tick, .frame 0x020001], x ≠ .reset ∧
      ({ offered [x] [] with fault := .bus } : State).inputs = x :: []) ∧
    ({ offered [.reset] [] with fault := .bus } : State).inputs = .reset :: [] := by
  refine ⟨by decide, ?_, rfl⟩
  intro x hx
  refine ⟨?_, rfl⟩
  rintro rfl
  simp at hx

theorem witness_TickInputKeepsPcAndResponse :
    ({ running with inputs := [.tick] } : State).inputs = .tick :: [] ∧
    ∃ t, step { running with inputs := [.tick] } = .next t :=
  ⟨rfl, (goesTo_elim (p := fun t => t.fault == .none) (by decide +kernel)).imp fun _ h => h.1⟩

theorem witness_ResetGivesEveryElementItsResetValue :
    (offered [.reset] []).inputs = .reset :: [] ∧
    ∃ a b, (offered [.reset] []).oscs[0]? = some a ∧ (offered [.reset] []).oscs[1]? = some b := ⟨rfl, _, _, rfl, rfl⟩

theorem witness_StepKeepsTheStateInRange :
    ({ running with inputs := [.tick] } : State).Ok ∧ (offered [.reset] []).Ok ∧
    (offered [.word] [0x330000003F000000]).Ok := by decide +kernel

theorem witness_StepKeepsLastFrameAndReservedBits :
    (offered [.frame 0xC31234] []).LogOk ∧ ∃ t, step (offered [.frame 0xC31234] []) = .next t :=
  ⟨⟨rfl, by intro e he; cases he⟩, _, rfl⟩

theorem f32_zero : f32 0 = some 0 := by decide +kernel

theorem witness_StepKeepsFrequenciesBinary32 :
    (offered [.word] [0x32000000437A0000]).FreqsFinite ∧
    ∃ t, step (offered [.word] [0x32000000437A0000]) = .next t := by
  refine ⟨?_, (goesTo_elim (p := fun t => t.fault == .none) (by decide +kernel)).imp fun _ h => h.1⟩
  intro o ho
  refine ⟨0, f32_zero.trans ?_⟩
  have h : ∀ o ∈ ready.oscs, o.freq = 0 := by decide +kernel
  rw [h o ho]

theorem witness_StepKeepsTheParameters : ∃ t, step (offered [.word] [0x330000003F000000]) = .next t :=
  (goesTo_elim (p := fun t => t.fault == .none) (by decide +kernel)).imp fun _ h => h.1

theorem witness_EventLogOnlyGrows :
    (∃ t, step (offered [.word] [0x1300000000000000]) = .next t) ∧
    (offered [.word] [0x1300000000000000]).inputs.head? ≠ some .reset :=
  ⟨(goesTo_elim (p := fun t => t.fault == .none) (by decide +kernel)).imp fun _ h => h.1, by decide⟩

theorem witness_ControlWordsAdvancePcUnlessTheyFault :
    (ready.fault = .none ∧ isWireFrame (.chEn 0) = false ∧ ∃ t, exec (.chEn 0) ready = .next t ∧ t.fault = .none) ∧
    (dead.fault = .none ∧ isWireFrame (.chEn 0) = false ∧ ∃ t, exec (.chEn 0) dead = .next t ∧ t.fault ≠ .none) ∧
    (isWireFrame (.frameGain 1) = true ∧ ∃ t, exec (.frameGain 1) ready = .next t) :=
  ⟨⟨rfl, rfl, _, rfl, by decide⟩, ⟨rfl, rfl, _, rfl, by decide⟩, rfl, _, rfl⟩

theorem witness_OnlyTheNamedWritersWriteAnElement :
    (∃ t, exec (.chEn 0) ready = .next t) ∧ mayWrite (.chEn 0) (.en .b) = false ∧ mayWrite (.chEn 0) .vref = false :=
  ⟨⟨_, rfl⟩, by decide, by decide⟩

theorem witness_WavetableFrame :
    ((∃ t, exec .tick running = .next t) ∧ mayWrite .tick (.table 0) = false) ∧
    (∃ t, exec (.oscTwr 0 5 3) ready = .next t) ∧ ((0, 2) : Nat × Nat) ≠ ((0 : Byte).toNat, (3 : U32).toNat) ∧
      ((1, 3) : Nat × Nat) ≠ ((0 : Byte).toNat, (3 : U32).toNat) :=
  ⟨⟨(goesTo_elim (p := fun t => t.fault == .none) (by decide +kernel)).imp fun _ h => h.1, by decide⟩,
    (goesTo_elim (p := fun t => t.fault == .none) (by decide +kernel)).imp fun _ h => h.1, by decide, by decide⟩

theorem witness_BadSelectorIsIgnored :
    ready.fault = .none ∧ (channelSelOf (.chEn 2) = some 2 ∧ 2 ≤ (2 : Byte).toNat) ∧
    (channelSelOf (.chV2d 255 0) = some 255 ∧ 2 ≤ (255 : Byte).toNat) ∧
    (oscSelOf (.oscEn 2) = some 2 ∧ ready.oscs.length ≤ (2 : Byte).toNat) := by decide +kernel

theorem witness_AbsentLinesAreNeverPulsed :
    (∃ t, exec .devLdacPulse { ready with syncAtt := true } = .next t ∧ t.evlog = ready.evlog ++ [.pulse .ldac]) ∧
    (∃ t, exec .devClrPulse { ready with clrAtt := true } = .next t ∧ t.evlog = ready.evlog ++ [.pulse .clr]) :=
  ⟨⟨_, rfl, rfl⟩, _, rfl, rfl⟩

theorem witness_CodecWritersResult : (withFr 0xC2 0x34 0x56 2).fault = .none := rfl

theorem witness_CodecReadersResult : (withFr 0xC2 0x34 0x56 2).fault = .none := rfl

/-- Slot A with identity 9, slot B with identity 2, the least that is not valid. -/
def noSlots : State := { ready with cfg := { testConfig with chanIdA := 9, chanIdB := 2 } }

theorem witness_InvalidIdentityClearsEnabled :
    noSlots.fault = .none ∧ (channelSelOf (.chEn 0) = some 0 ∧ noSlots.cfg.chanIdA ≠ 0 ∧ noSlots.cfg.chanIdA ≠ 1) ∧
    (channelSelOf (.chGain 1 9) = some 1 ∧ noSlots.cfg.chanIdB ≠ 0 ∧ noSlots.cfg.chanIdB ≠ 1) := by decide

theorem witness_ChSetoutResult :
    (ready.fault = .none ∧ ready.DefaultCodes ∧ ready.Selects 0 .a ∧ ready.Selects 1 .b ∧ ready.busOk = true) ∧
    (dead.fault = .none ∧ dead.DefaultCodes ∧ dead.Selects 0 .a ∧ dead.busOk = false) :=
  ⟨⟨rfl, rfl, ⟨rfl, rfl⟩, ⟨rfl, rfl⟩, rfl⟩, rfl, rfl, ⟨rfl, rfl⟩, rfl⟩

/-- 1.25 is finite, +infinity is not. -/
theorem f32_values : f32 0x3FA00000 = some (5 / 4) ∧ f32 0x7F800000 = none := by decide +kernel

/-- With a reference of 0. -/
def noReference : State := { ready with vref := 0 }

theorem denominators : noReference.vref * (noReference.channel .a).gain.factor = 0 ∧
    ready.vref * (ready.channel .a).gain.factor ≠ 0 ∧ dead.vref * (dead.channel .a).gain.factor ≠ 0 := by decide +kernel

theorem witness_ChSetvResult :
    (ready.fault = .none ∧ ready.DefaultCodes ∧ ready.Selects 0 .a) ∧ f32 0x7F800000 = none ∧
    (noReference.fault = .none ∧ noReference.DefaultCodes ∧ noReference.Selects 0 .a ∧ f32 0x3FA00000 = some (5 / 4) ∧
      noReference.vref * (noReference.channel .a).gain.factor = 0) ∧
    (ready.vref * (ready.channel .a).gain.factor ≠ 0 ∧ ready.busOk = true) ∧
    (dead.fault = .none ∧ dead.DefaultCodes ∧ dead.Selects 0 .a ∧
      dead.vref * (dead.channel .a).gain.factor ≠ 0 ∧ dead.busOk = false) :=
  ⟨⟨rfl, rfl, ⟨rfl, rfl⟩⟩, f32_values.2, ⟨rfl, rfl, ⟨rfl, rfl⟩, f32_values.1, denominators.1⟩,
    ⟨denominators.2.1, rfl⟩, rfl, rfl, ⟨rfl, rfl⟩, denominators.2.2, rfl⟩

theorem witness_ChGainResult :
    (ready.fault = .none ∧ ready.DefaultCodes ∧ ready.Selects 0 .a ∧ ready.Selects 1 .b) ∧ 3 < (4 : U16).toNat ∧
    ((3 : U16).toNat ≤ 3 ∧ ready.busOk = true) ∧
    (dead.fault = .none ∧ dead.DefaultCodes ∧ dead.Selects 1 .b ∧ (0 : U16).toNat ≤ 3 ∧ dead.busOk = false) :=
  ⟨⟨rfl, rfl, ⟨rfl, rfl⟩, rfl, rfl⟩, by decide, ⟨by decide, rfl⟩, rfl, rfl, ⟨rfl, rfl⟩, by decide, rfl⟩

theorem witness_ChUpdateResult :
    (ready.fault = .none ∧ ready.DefaultCodes ∧ ready.Selects 1 .b ∧ ready.busOk = true) ∧
    (dead.fault = .none ∧ dead.DefaultCodes ∧ dead.Selects 0 .a ∧ dead.busOk = false) :=
  ⟨⟨rfl, rfl, ⟨rfl, rfl⟩, rfl⟩, rfl, rfl, ⟨rfl, rfl⟩, rfl⟩

theorem witness_ChEnAndChDisResult :
    (ready.fault = .none ∧ ready.DefaultCodes ∧ ready.Selects 0 .a ∧ ready.Selects 1 .b ∧ ready.busOk = true) ∧
    (dead.fault = .none ∧ dead.DefaultCodes ∧ dead.Selects 1 .b ∧ dead.busOk = false) :=
  ⟨⟨rfl, rfl, ⟨rfl, rfl⟩, ⟨rfl, rfl⟩, rfl⟩, rfl, rfl, ⟨rfl, rfl⟩, rfl⟩

theorem witness_ChConversionsResult :
    (ready.fault = .none ∧ ready.Selects 0 .a) ∧ f32 0x7F800000 = none ∧ f32 0x3FA00000 = some (5 / 4) ∧
    (noReference.fault = .none ∧ noReference.Selects 0 .a ∧
      noReference.vref * (noReference.channel .a).gain.factor = 0) ∧
    ready.vref * (ready.channel .a).gain.factor ≠ 0 :=
  ⟨⟨rfl, rfl, rfl⟩, f32_values.2, f32_values.1, ⟨rfl, ⟨rfl, rfl⟩, denominators.1⟩, denominators.2.1⟩

theorem witness_VoltsToCodeInvertsCodeToVolts :
    1 ≤ 16383 ∧ (0 : Rat) < 5 / 2 ∧ (0 : U16).toNat ≤ 16383 ∧ (16383 : U16).toNat ≤ 16383 := by decide +kernel

theorem witness_PortRoundTripReturnsTheCode :
    ready.fault = .none ∧ ready.Ok ∧ 0 < ready.vref ∧ ready.Selects 0 .a ∧
    ((0 : U16).toNat ≤ ready.cfg.fullScale ∧
      (0 : Rat) = ((0 : U16).toNat : Rat) * ready.vref * (ready.channel .a).gain.factor / ready.cfg.fullScale) ∧
    ((16383 : U16).toNat ≤ ready.cfg.fullScale ∧
      (5 / 2 : Rat) = ((16383 : U16).toNat : Rat) * ready.vref * (ready.channel .a).gain.factor / ready.cfg.fullScale ∧
      1 / 2 ^ 126 ≤ (5 / 2 : Rat) ∧ (5 / 2 : Rat) < 2 ^ 128) :=
  ⟨rfl, ready_ok, by decide +kernel, ⟨rfl, rfl⟩, ⟨by decide, by decide +kernel⟩, by decide, by decide +kernel,
    by decide +kernel, by decide +kernel⟩

theorem witness_Rne32RoundsToNearestEven :
    (|(-(1 / 2 ^ 149) : Rat)| ≤ (2 - 1 / 2 ^ 23) * 2 ^ 127 ∧ |((2 - 1 / 2 ^ 23) * 2 ^ 127 : Rat)| ≤ (2 - 1 / 2 ^ 23) * 2 ^ 127) ∧
    f32 0x7F7FFFFF = some ((2 - 1 / 2 ^ 23) * 2 ^ 127) ∧
    (|(2 ^ 24 + 1 : Rat)| ≤ (2 - 1 / 2 ^ 23) * 2 ^ 127 ∧ f32 (rne32 (2 ^ 24 + 1)) = some (2 ^ 24) ∧
      f32 0x4B800001 = some (2 ^ 24 + 2) ∧ (2 ^ 24 + 2 : Rat) ≠ 2 ^ 24 ∧
      |(2 ^ 24 + 2 : Rat) - (2 ^ 24 + 1)| = |(2 ^ 24 : Rat) - (2 ^ 24 + 1)| ∧ 1 / 2 ^ 126 ≤ |(2 ^ 24 + 1 : Rat)|) := by
  decide +kernel

theorem witness_Rne32FixesBinary32Values :
    f32 0x00000001 = some (1 / 2 ^ 149) ∧ (1 / 2 ^ 149 : Rat) ≠ 0 ∧ f32 0xC0200000 = some (-5 / 2) ∧ (-5 / 2 : Rat) ≠ 0 := by
  decide +kernel

theorem witness_NonFiniteOperandFaults :
    ready.fault = .none ∧ f32 0x7F800000 = none ∧ ready.Selects 0 .a ∧ ∃ o, ready.SelectsOsc 1 o :=
  ⟨rfl, f32_values.2, ⟨rfl, rfl⟩, _, rfl⟩

/-- An oscillator that runs on slot A. -/
def codeOsc : Osc := { testOsc .sine .a [8192, 16383, 8192, 0] with run := true, freq := 250 }

/-- An oscillator that runs on slot B in voltage mode. -/
def voltageOsc : Osc := { testOsc .saw .b [0, 4096, 8192, 12287] with run := true, freq := 250, vmode := true }

/-- `s` with an oscillator in code mode, one in voltage mode and a third one, which runs too. -/
def withThree (s : State) : State := { s with oscs := [codeOsc] ++ voltageOsc :: [codeOsc] }

theorem witness_ZeroReferenceFaults :
    (noReference.fault = .none ∧ noReference.vref = 0) ∧
    (noReference.Selects 0 .a ∧ f32 0x3FA00000 = some (5 / 4)) ∧
    ((withThree noReference).fault = .none ∧ (withThree noReference).vref = 0 ∧ (withThree noReference).Ok ∧
      (withThree noReference).DefaultCodes ∧ (withThree noReference).oscs = [codeOsc] ++ voltageOsc :: [codeOsc] ∧
      (∀ x ∈ [codeOsc], x.run = true → x.vmode = true → validId ((withThree noReference).chanId x.bind) = false) ∧
      (withThree noReference).busOkFor ((withThree noReference).framesOf [codeOsc]).length ∧ voltageOsc.run = true ∧
      voltageOsc.vmode = true ∧ validId ((withThree noReference).chanId voltageOsc.bind) = true) := by
  refine ⟨⟨rfl, rfl⟩, ⟨⟨rfl, rfl⟩, f32_values.1⟩, rfl, rfl, by decide +kernel, rfl, rfl, by decide +kernel, ?_, rfl, rfl, rfl⟩
  rw [show ((withThree noReference).framesOf [codeOsc]).length = 1 by decide +kernel]
  exact ⟨rfl, trivial⟩

/-- `withThree` where the first exchange of a tick completes and the second does not. -/
def failsSecond : State := withThree (fresh [true, false])

theorem witness_TickStopsAtAFailedExchange :
    (failsSecond.fault = .none ∧ failsSecond.Ok ∧ failsSecond.DefaultCodes) ∧
    (failsSecond.oscs = [codeOsc] ++ voltageOsc :: [codeOsc] ∧ voltageOsc.run = true ∧
      validId (failsSecond.chanId voltageOsc.bind) = true ∧ 0 < failsSecond.vref ∧
      failsSecond.busOkFor (failsSecond.framesOf [codeOsc]).length ∧
      (failsSecond.served [codeOsc] (voltageOsc :: [codeOsc])).busOk = false) ∧
    (({ dead with oscs := [codeOsc] } : State).fault = .none ∧ ({ dead with oscs := [codeOsc] } : State).Ok ∧
      ({ dead with oscs := [codeOsc] } : State).DefaultCodes ∧
      ({ dead with oscs := [codeOsc] } : State).oscs = [] ++ codeOsc :: [] ∧ codeOsc.run = true ∧
      validId (({ dead with oscs := [codeOsc] } : State).chanId codeOsc.bind) = true ∧
      (∀ x ∈ ([] ++ [codeOsc] : List Osc), x.run = true → x.vmode = false) ∧
      ({ dead with oscs := [codeOsc] } : State).busOkFor (({ dead with oscs := [codeOsc] } : State).framesOf []).length ∧
      (({ dead with oscs := [codeOsc] } : State).served [] (codeOsc :: [])).busOk = false) := by
  refine ⟨⟨rfl, by decide +kernel, rfl⟩, ⟨rfl, rfl, rfl, by decide +kernel, ?_, by decide +kernel⟩, rfl,
    by decide +kernel, rfl, rfl, rfl, rfl, by decide +kernel, trivial, rfl⟩
  rw [show (failsSecond.framesOf [codeOsc]).length = 1 by decide +kernel]
  exact ⟨rfl, trivial⟩

theorem witness_FailedExchangeChangesOnlyFault :
    dead.fault = .none ∧ dead.busOk = false ∧ dead.Selects 0 .a ∧ dead.Selects 1 .b ∧ (3 : U16).toNat ≤ 3 ∧
    f32 0x3FA00000 = some (5 / 4) ∧ dead.vref ≠ 0 :=
  ⟨rfl, rfl, ⟨rfl, rfl⟩, ⟨rfl, rfl⟩, by decide, f32_values.1, by decide +kernel⟩

theorem witness_FaultAtThirdDefaultFrameKeepsTheFirstTwo :
    (fresh [true, true, false]).fault = .none ∧ (fresh [true, true, false]).DefaultCodes ∧
    (fresh [true, true, false]).DefaultIds ∧ (fresh [true, true, false]).busOkFor 2 ∧
    (fresh [true, true, false]).afterDraw.afterDraw.busOk = false :=
  ⟨rfl, rfl, ⟨rfl, rfl⟩, ⟨rfl, rfl, trivial⟩, rfl⟩

theorem witness_DefaultSequenceResult :
    (ready.fault = .none ∧ ready.DefaultCodes ∧ ready.busOkFor
      (ready.perSlot (powerFrame 1) ++ [Event.frame 0x30 0x00 0x03, .frame 0x38 0x00 0x01] ++
        ready.perSlot (fun _ => .frame 0x02 0x00 0x00)).length) ∧
    (noSlots.fault = .none ∧ noSlots.DefaultCodes ∧ noSlots.busOkFor
      (noSlots.perSlot (powerFrame 1) ++ [Event.frame 0x30 0x00 0x03, .frame 0x38 0x00 0x01] ++
        noSlots.perSlot (fun _ => .frame 0x02 0x00 0x00)).length) := by
  refine ⟨⟨rfl, rfl, ?_⟩, rfl, rfl, ?_⟩
  · show ready.busOkFor 6
    exact ⟨rfl, rfl, rfl, rfl, rfl, rfl, trivial⟩
  · show noSlots.busOkFor 2
    exact ⟨rfl, rfl, trivial⟩

theorem witness_DevIntrefResult :
    ready.fault = .none ∧ ready.DefaultCodes ∧ ready.busOkFor
      ((.frame 0x38 0x00 (if (1 : U16).getLsbD 0 then 0x01 else 0x00)) ::
        ready.perSlot (fun _ => .frame 0x02 0x00 (if (1 : U16).getLsbD 0 then 0x00 else 0x03))).length := by
  refine ⟨rfl, rfl, ?_⟩
  show ready.busOkFor 3
  exact ⟨rfl, rfl, rfl, trivial⟩

theorem witness_DevVrefResult : ready.fault = .none ∧ f32 0x7F800000 = none ∧ f32 0x3FA00000 = some (5 / 4) :=
  ⟨rfl, f32_values.2, f32_values.1⟩

theorem witness_ControlLinesResult :
    (ready.fault = .none ∧ ready.syncAtt = false ∧ ready.clrAtt = false) ∧
    (({ ready with syncAtt := true, clrAtt := true } : State).fault = .none ∧
      ({ ready with syncAtt := true, clrAtt := true } : State).syncAtt = true ∧
      ({ ready with syncAtt := true, clrAtt := true } : State).clrAtt = true) :=
  ⟨⟨rfl, rfl, rfl⟩, rfl, rfl, rfl⟩

theorem witness_ModeWordsResult :
    (ready.fault = .none ∧ ready.DefaultCodes ∧ ready.busOk = true) ∧ (dead.fault = .none ∧ dead.busOk = false) :=
  ⟨⟨rfl, rfl, rfl⟩, rfl, rfl⟩

theorem witness_ResetsRawWriteAndLastResult :
    (ready.fault = .none ∧ ready.busOk = true ∧ ready.DefaultCodes) ∧ (dead.fault = .none ∧ dead.busOk = false) :=
  ⟨⟨rfl, rfl, rfl⟩, rfl, rfl⟩

theorem witness_OscFlagWordsResult : ready.fault = .none ∧ ∃ o, ready.SelectsOsc 1 o := ⟨rfl, _, rfl⟩

theorem ready_size : ∀ o ∈ ready.oscs, o.size = 4 := by decide +kernel

theorem witness_OscFreqAndPhaseResult :
    ready.fault = .none ∧ f32 0x7F800000 = none ∧ f32 0x3FA00000 = some (5 / 4) ∧
    ∃ o, ready.SelectsOsc 1 o ∧ 1 ≤ o.size :=
  ⟨rfl, f32_values.2, f32_values.1, _, rfl, by rw [ready_size _ (List.mem_of_getElem? (i := 1) rfl)]; decide⟩

theorem witness_OscTableParametersResult :
    (ready.fault = .none ∧ ∃ o, ready.SelectsOsc 0 o) ∧ f32 0x7F800000 = none ∧
    (f32 0x3FA00000 = some (5 / 4) ∧ (1 : Rat) = if (5 / 4 : Rat) < 0 then 0 else if (1 : Rat) < 5 / 4 then 1 else 5 / 4) ∧
    (f32 0xC0000000 = some (-2) ∧ (-1 : Rat) = if (-2 : Rat) < -1 then -1 else if (1 : Rat) < -2 then 1 else -2) ∧
    ((2 : U16), Kind.arb) ∈ [((0 : U16), Kind.sine), (1, .saw), (2, .arb)] ∧ 2 < (3 : U16).toNat :=
  ⟨⟨rfl, _, rfl⟩, f32_values.2, ⟨f32_values.1, by decide +kernel⟩, ⟨by decide +kernel, by decide +kernel⟩, by decide,
    by decide⟩

theorem witness_OscTableAndBindResult :
    ready.fault = .none ∧ (∃ o, ready.SelectsOsc 0 o ∧ o.size ≤ (4 : U32).toNat ∧ (3 : U32).toNat < o.size) ∧
    1 < (2 : U16).toNat :=
  ⟨rfl, ⟨_, rfl, by rw [ready_size _ (List.mem_of_getElem? (i := 0) rfl)]; decide,
    by rw [ready_size _ (List.mem_of_getElem? (i := 0) rfl)]; decide⟩, by decide⟩

theorem witness_SampleLiesBetweenItsNeighbours :
    (1 ≤ voltageOsc.size ∧ 0 ≤ voltageOsc.ph ∧ voltageOsc.ph = (0 : Int)) ∧
    (1 ≤ ({ voltageOsc with ph := 7 / 2 } : Osc).size ∧ 0 ≤ ({ voltageOsc with ph := 7 / 2 } : Osc).ph) := by decide +kernel

theorem witness_TickServesEveryRunningOscillator :
    (running.fault = .none ∧ running.Ok ∧ running.DefaultCodes ∧ running.busOkFor running.tickFrames.length ∧
      0 < running.vref) ∧
    (({ running with vref := 0 } : State).fault = .none ∧ ({ running with vref := 0 } : State).Ok ∧
      ({ running with vref := 0 } : State).DefaultCodes ∧
      ({ running with vref := 0 } : State).busOkFor ({ running with vref := 0 } : State).tickFrames.length ∧
      ∀ o ∈ ({ running with vref := 0 } : State).oscs, o.run = true → o.vmode = false) := by
  refine ⟨⟨rfl, by decide +kernel, rfl, ?_, by decide +kernel⟩, rfl, by decide +kernel, rfl, ?_, by decide +kernel⟩
  · rw [show running.tickFrames.length = 2 by decide +kernel]
    exact ⟨rfl, rfl, trivial⟩
  · rw [show ({ running with vref := 0 } : State).tickFrames.length = 2 by decide +kernel]
    exact ⟨rfl, rfl, trivial⟩

theorem witness_AccumulatorAfterManyTicks :
    ({ running with inputs := [.tick, .tick, .tick] } : State).inputs = List.replicate 2 .tick ++ [.tick] ∧
    (∃ o, running.oscs[0]? = some o ∧ o.run = true ∧ o.idx < o.size) ∧
    ∃ t, Host.Core.run Sys2Proof.core 2 { running with inputs := [.tick, .tick, .tick] } = .next t ∧ t.fault = .none := by
  refine ⟨rfl, ?_, ?_⟩
  · have h : ∀ o ∈ running.oscs, o.run = true ∧ o.idx < o.size := by decide +kernel
    exact ⟨_, rfl, h _ (List.mem_of_getElem? (i := 0) rfl)⟩
  · obtain ⟨t, h, hf⟩ := goesTo_elim
      (r := Host.Core.run Sys2Proof.core 2 ({ running with inputs := [.tick, .tick, .tick] } : State))
      (p := fun t => decide (t.fault = .none)) (by decide +kernel)
    exact ⟨t, h, by simpa using hf⟩

/-- The oscillator of S5. -/
def longOsc : Osc := { Osc.blank 1639 with freq := 100 }

theorem witness_AccumulatorExampleOfTheSpec : longOsc.size = 1639 ∧ longOsc.freq = 100 ∧ longOsc.idx = 0 :=
  ⟨List.length_replicate, rfl, rfl⟩

/-- The sine oscillator of section 0. -/
def sineOsc : Osc := testOsc .sine .a [8192, 16383, 8192, 0]

theorem witness_SineTableSymmetry :
    16383 ≤ 65535 ∧ sineOsc.kind = .sine ∧ sineOsc.dc = 0 ∧ 0 ≤ sineOsc.amp ∧ sineOsc.amp ≤ 1 ∧
    sineOsc.size % 2 = 0 ∧ 0 < sineOsc.size / 2 ∧ 1 < sineOsc.size / 2 := by decide +kernel

theorem witness_WireFramesAreExchanged :
    (ready.fault = .none ∧ ready.busOk = true) ∧ (dead.fault = .none ∧ dead.busOk = false) := ⟨⟨rfl, rfl⟩, rfl, rfl⟩

theorem witness_CachesAgreeWithTheConverterAfterInit :
    ready.fault = .none ∧ ready.DefaultCodes ∧ ready.DefaultIds ∧
    (∃ t, exec .devInit ready = .next t ∧ t.fault = .none) ∧ ∃ t, exec .devDefault ready = .next t ∧ t.fault = .none :=
  ⟨rfl, rfl, ⟨rfl, rfl⟩, ⟨_, rfl, by decide +kernel⟩, _, rfl, by decide +kernel⟩

theorem witness_GainWriteFromOneSlotSetsBothAtTheConverter :
    ready.fault = .none ∧ ready.DefaultCodes ∧ ready.DefaultIds ∧
    ∃ t, exec (.chGain 0 1) ready = .next t ∧ t.fault = .none := ⟨rfl, rfl, ⟨rfl, rfl⟩, _, rfl, by decide +kernel⟩

end Sys2Proof.Tests
end

section
/-! The rounding of spec/00_scope.md R14 (O36). `rne32` rounds a magnitude to a significand in a unit `2^k`. The values
of binary32 words are multiples of that unit, or lie below the binade of the magnitude, so that the nearest integer
number of units is the nearest value of the format. -/

namespace Sys2Proof.Machine

/-! ### The primitives under `rne32` -/

/-- A quotient of naturals by the powers of two at or below its parts. -/
theorem two_zpow_le_natCast_div (n d : Nat) (g : Int) (hd : 0 < d) :
    (2 : Rat) ^ g ≤ (n : Rat) / d ↔
      if 0 ≤ g then d * 2 ^ g.toNat ≤ n else d ≤ n * 2 ^ (-g).toNat := by
  have hd' : (0 : Rat) < d := by exact_mod_cast hd
  rw [le_div_iff₀ hd']
  split
  case isTrue hg =>
    obtain ⟨j, rfl⟩ := Int.eq_ofNat_of_zero_le hg
    rw [zpow_natCast, mul_comm, Int.toNat_natCast]
    exact_mod_cast Iff.rfl
  case isFalse hg =>
    obtain ⟨j, hj⟩ := Int.eq_ofNat_of_zero_le (a := -g) (by omega)
    obtain rfl : g = -j := by omega
    have hp : (0 : Rat) < 2 ^ j := by positivity
    rw [zpow_neg, zpow_natCast, inv_mul_le_iff₀ hp, neg_neg, Int.toNat_natCast, mul_comm]
    exact_mod_cast Iff.rfl

/-- A quotient of naturals lies within a factor of two of the quotient of their leading powers of two. -/
theorem natCast_div_mem_of_log2 {n d : Nat} (hn : n ≠ 0) (hd : d ≠ 0) :
    (2 : Rat) ^ ((n.log2 : Int) - d.log2 - 1) ≤ (n : Rat) / d ∧
      (n : Rat) / d < 2 ^ ((n.log2 : Int) - d.log2 + 1) := by
  have hpos : (0 : Rat) < d := by exact_mod_cast Nat.pos_of_ne_zero hd
  have hn1 : (2 : Rat) ^ (n.log2 : Int) ≤ n := by exact_mod_cast Nat.log2_self_le hn
  have hn2 : (n : Rat) < 2 ^ (n.log2 + 1 : Int) := by exact_mod_cast Nat.lt_log2_self
  have hd1 : (2 : Rat) ^ (d.log2 : Int) ≤ d := by exact_mod_cast Nat.log2_self_le hd
  have hd2 : (d : Rat) < 2 ^ (d.log2 + 1 : Int) := by exact_mod_cast Nat.lt_log2_self
  rw [le_div_iff₀ hpos, div_lt_iff₀ hpos]
  constructor
  · calc (2 : Rat) ^ ((n.log2 : Int) - d.log2 - 1) * d
        ≤ 2 ^ ((n.log2 : Int) - d.log2 - 1) * 2 ^ (d.log2 + 1 : Int) := by gcongr
      _ = 2 ^ (n.log2 : Int) := by rw [← zpow_add₀ two_ne_zero]; congr 1; omega
      _ ≤ n := hn1
  · calc (n : Rat) < 2 ^ (n.log2 + 1 : Int) := hn2
      _ = 2 ^ ((n.log2 : Int) - d.log2 + 1) * 2 ^ (d.log2 : Int) := by
        rw [← zpow_add₀ two_ne_zero]; congr 1; omega
      _ ≤ 2 ^ ((n.log2 : Int) - d.log2 + 1) * d := by gcongr

/-- `floorLog2` is the exponent of the binade of a positive rational. -/
theorem floorLog2_spec {a : Rat} (ha : 0 < a) : (2 : Rat) ^ floorLog2 a ≤ a ∧ a < 2 ^ (floorLog2 a + 1) := by
  have hnum := Rat.num_pos.2 ha
  have hfrac : (a.num.natAbs : Rat) / a.den = a := by
    rw [Nat.cast_natAbs, abs_of_pos hnum, Rat.num_div_den]
  have hmem := natCast_div_mem_of_log2 (Int.natAbs_ne_zero.2 hnum.ne') a.den_nz
  have hreached := two_zpow_le_natCast_div a.num.natAbs a.den (a.num.natAbs.log2 - a.den.log2) a.den_pos
  rw [hfrac] at hmem hreached
  have hdef : floorLog2 a = if (2 : Rat) ^ ((a.num.natAbs.log2 : Int) - a.den.log2) ≤ a
      then (a.num.natAbs.log2 : Int) - a.den.log2 else a.num.natAbs.log2 - a.den.log2 - 1 := by
    unfold floorLog2
    by_cases h0 : 0 ≤ (a.num.natAbs.log2 : Int) - a.den.log2 <;>
      simp only [hreached, h0, if_true, if_false, decide_eq_true_eq]
  rw [hdef]
  split
  case isTrue h => exact ⟨h, hmem.2⟩
  case isFalse h => exact ⟨hmem.1, by simpa using h⟩

/-- `scaleDown` divides by a power of two. -/
theorem scaleDown_eq (a : Rat) (k : Int) : scaleDown a k = a / 2 ^ k := by
  unfold scaleDown
  split
  case isTrue hk =>
    obtain ⟨j, rfl⟩ := Int.eq_ofNat_of_zero_le hk
    simp
  case isFalse hk =>
    obtain ⟨j, hj⟩ := Int.eq_ofNat_of_zero_le (a := -k) (by omega)
    obtain rfl : k = -j := by omega
    simp [div_eq_mul_inv]

/-- `roundEven` is within one half, and even where it is a half away. -/
theorem roundEven_close {q : Rat} (hq : 0 ≤ q) :
    |(roundEven q : Rat) - q| ≤ 1 / 2 ∧ (|(roundEven q : Rat) - q| = 1 / 2 → roundEven q % 2 = 0) := by
  have hfloor : ((⌊q⌋.toNat : Nat) : Rat) = ⌊q⌋ := by
    exact_mod_cast congrArg (Int.cast (R := Rat)) (Int.toNat_of_nonneg (Int.floor_nonneg.2 hq))
  have h1 := Int.floor_le q
  have h2 := Int.lt_floor_add_one q
  rw [← hfloor] at h1 h2
  unfold roundEven
  set f := ⌊q⌋.toNat
  simp only
  split_ifs with hlt hgt
  · rw [abs_sub_comm, abs_of_nonneg (by linarith)]
    exact ⟨hlt.le, fun h => absurd h hlt.ne⟩
  · push_cast
    rw [abs_of_nonneg (by linarith)]
    exact ⟨by linarith, fun h => by linarith⟩
  · have hhalf : q - f = 1 / 2 := le_antisymm (not_lt.1 hgt) (not_lt.1 hlt)
    refine ⟨le_of_eq ?_, fun _ => by omega⟩
    obtain heven | hodd := Nat.mod_two_eq_zero_or_one f
    · rw [heven, add_zero, abs_sub_comm, hhalf, abs_of_pos one_half_pos]
    · rw [hodd, Nat.cast_add_one, show (f : Rat) + 1 - q = 1 / 2 by linarith, abs_of_pos one_half_pos]

/-- No integer is nearer to `q` than `roundEven q`, and it is even where another integer is as near. -/
theorem roundEven_nearest {q : Rat} (hq : 0 ≤ q) (n : Int) :
    |(roundEven q : Rat) - q| ≤ |n - q| ∧
      ((n : Rat) ≠ roundEven q → |n - q| = |(roundEven q : Rat) - q| → roundEven q % 2 = 0) := by
  obtain ⟨hclose, heven⟩ := roundEven_close hq
  by_cases hn : n = (roundEven q : Int)
  · subst hn
    simp
  · have hapart : (1 : Rat) ≤ |(n : Rat) - roundEven q| := by
      exact_mod_cast Int.one_le_abs (sub_ne_zero.2 hn)
    have htri : |(n : Rat) - roundEven q| ≤ |n - q| + |(roundEven q : Rat) - q| := by
      rw [abs_sub_comm (roundEven q : Rat)]; exact abs_sub_le _ _ _
    exact ⟨by linarith, fun _ htie => heven (by linarith)⟩

/-- `roundEven` does not pass a natural from below. -/
theorem roundEven_le {q : Rat} {n : Nat} (hq : 0 ≤ q) (h : q ≤ n) : roundEven q ≤ n := by
  have hclose := (abs_le.1 (roundEven_close hq).1).2
  have hlt : (roundEven q : Rat) < n + 1 := by linarith
  exact Nat.lt_succ_iff.1 (by exact_mod_cast hlt)

/-- `roundEven` does not pass a natural from above. -/
theorem le_roundEven {q : Rat} {n : Nat} (hq : 0 ≤ q) (h : n ≤ q) : n ≤ roundEven q := by
  have hclose := (abs_le.1 (roundEven_close hq).1).1
  have hlt : (n : Rat) < roundEven q + 1 := by linarith
  exact Nat.lt_succ_iff.1 (by exact_mod_cast hlt)

/-! ### The values of binary32 words -/

theorem expField_eq (w : U32) : expField w = w.toNat / 2 ^ 23 % 2 ^ 8 := by
  simp [expField, BitVec.extractLsb'_toNat, Nat.shiftRight_eq_div_pow]

theorem fracField_eq (w : U32) : fracField w = w.toNat % 2 ^ 23 := by
  simp [fracField, BitVec.extractLsb'_toNat]

/-- The significand of a binary32 word, with its hidden 1. -/
def significand (w : U32) : Nat := if expField w = 0 then fracField w else 2 ^ 23 + fracField w

theorem significand_lt (w : U32) : significand w < 2 ^ 24 := by
  have hf : fracField w < 2 ^ 23 := fracField_eq w ▸ Nat.mod_lt _ (by norm_num)
  unfold significand
  split <;> omega

/-- The magnitude of a finite word: its significand in units of a power of two. -/
def wordMagnitude (w : U32) : Rat := significand w * 2 ^ ((max (expField w) 1 : Nat) - 150 : Int)

/-- The value of a finite word is its magnitude with its sign. -/
theorem f32_of_finite {w : U32} (h : expField w ≠ 255) :
    f32 w = some (if w.msb then -wordMagnitude w else wordMagnitude w) := by
  have hmag : ((significand w * 2 ^ max (expField w) 1 : Nat) : Rat) / (2 ^ 150 : Nat) = wordMagnitude w := by
    unfold wordMagnitude
    rw [zpow_sub₀ two_ne_zero, zpow_natCast, ← mul_div_assoc]
    norm_cast
  rw [← hmag]
  exact if_neg h

/-- A finite word's magnitude is a 24-bit significand in units of a power of two not below `2^-149`. -/
theorem abs_of_f32 {w : U32} {x : Rat} (h : f32 w = some x) :
    ∃ e n : Nat, n < 2 ^ 24 ∧ |x| = n * 2 ^ ((e : Int) - 149) := by
  have hfinite : expField w ≠ 255 := of_decide_eq_true (f32_isSome w ▸ h ▸ rfl)
  rw [f32_of_finite hfinite] at h
  obtain rfl := Option.some.inj h
  refine ⟨max (expField w) 1 - 1, significand w, significand_lt w, ?_⟩
  unfold wordMagnitude
  rw [apply_ite abs, abs_neg, ite_self, abs_of_nonneg (by positivity),
    show ((max (expField w) 1 - 1 : Nat) : Int) - 149 = (max (expField w) 1 : Nat) - 150 by omega]

/-- The word made of an exponent field `e` and a significand `m` of at most `2^24` added to it: the hidden 1 is the
carry of `m` into the exponent field, so that only `e = 0` admits a significand below `2^23`. -/
theorem f32_ofNat (neg : Prop) [Decidable neg] {e m : Nat} (hm : m ≤ 2 ^ 24) (hnormal : e = 0 ∨ 2 ^ 23 ≤ m)
    (hfinite : e * 2 ^ 23 + m < 0x7F800000) :
    f32 (BitVec.ofNat 32 (if neg then 2 ^ 31 + (e * 2 ^ 23 + m) else e * 2 ^ 23 + m)) =
      some (if neg then -((m : Rat) * 2 ^ ((e : Int) - 149)) else (m : Rat) * 2 ^ ((e : Int) - 149)) := by
  set w := BitVec.ofNat 32 (if neg then 2 ^ 31 + (e * 2 ^ 23 + m) else e * 2 ^ 23 + m) with hw
  have hnat : w.toNat = if neg then 2 ^ 31 + (e * 2 ^ 23 + m) else e * 2 ^ 23 + m := by
    rw [hw, BitVec.toNat_ofNat]; apply Nat.mod_eq_of_lt; split <;> omega
  have hmsb : w.msb = decide neg := by
    rw [BitVec.msb_eq_decide, hnat, decide_eq_decide]
    split
    case isTrue h => exact iff_of_true (by omega) h
    case isFalse h => exact iff_of_false (by omega) h
  have hexp : expField w = (e * 2 ^ 23 + m) / 2 ^ 23 := by
    rw [expField_eq, hnat]; split <;> omega
  have hfrac : fracField w = (e * 2 ^ 23 + m) % 2 ^ 23 := by
    rw [fracField_eq, hnat]; split <;> omega
  have hmag : wordMagnitude w = m * 2 ^ ((e : Int) - 149) := by
    unfold wordMagnitude significand
    obtain hsub | hnorm | hcarry : m < 2 ^ 23 ∨ (2 ^ 23 ≤ m ∧ m < 2 ^ 24) ∨ m = 2 ^ 24 := by omega
    · rw [if_pos (by omega), show fracField w = m by omega,
        show ((max (expField w) 1 : Nat) - 150 : Int) = e - 149 by omega]
    · rw [if_neg (by omega), show 2 ^ 23 + fracField w = m by omega,
        show ((max (expField w) 1 : Nat) - 150 : Int) = e - 149 by omega]
    · rw [if_neg (by omega), show 2 ^ 23 + fracField w = 2 ^ 23 by omega, hcarry,
        show ((max (expField w) 1 : Nat) - 150 : Int) = 1 + (e - 149) by omega, zpow_add₀ two_ne_zero]
      push_cast
      ring
  rw [f32_of_finite (by omega), hmag, hmsb]
  simp only [decide_eq_true_eq]

/-! ### The unit and the significand `rne32` rounds to -/

/-- The exponent of the unit in which `rne32` rounds a magnitude. -/
def rneUnit (a : Rat) : Int := max (floorLog2 a - 23) (-149)

/-- The number of units `rne32` rounds a magnitude to. -/
def rneSignificand (a : Rat) : Nat := roundEven (a / 2 ^ rneUnit a)

/-- The value of those units: what `rne32` makes of a magnitude, while it is finite. -/
def rneMagnitude (a : Rat) : Rat := rneSignificand a * 2 ^ rneUnit a

/-- The same with the sign of the rational. -/
def rneValue (q : Rat) : Rat := if q < 0 then -rneMagnitude |q| else rneMagnitude |q|

/-- `rne32` of a nonzero rational, in terms of the unit and the significand. -/
theorem rne32_of_ne_zero {q : Rat} (hq : q ≠ 0) :
    rne32 q = BitVec.ofNat 32 (if q < 0
      then 2 ^ 31 + min ((rneUnit |q| + 149).toNat * 2 ^ 23 + rneSignificand |q|) 0x7F800000
      else min ((rneUnit |q| + 149).toNat * 2 ^ 23 + rneSignificand |q|) 0x7F800000) := by
  unfold rne32 rneSignificand rneUnit
  rw [if_neg hq]
  simp only [scaleDown_eq]

theorem neg_149_le_rneUnit (a : Rat) : -149 ≤ rneUnit a := le_max_right _ _

/-- A magnitude has at most 24 significant bits before the point, in its unit. -/
theorem lt_of_rneUnit {a : Rat} (ha : 0 < a) : a < 2 ^ 24 * 2 ^ rneUnit a := by
  calc a < 2 ^ (floorLog2 a + 1) := (floorLog2_spec ha).2
    _ ≤ 2 ^ (24 + rneUnit a) := by
      have hunit : floorLog2 a - 23 ≤ rneUnit a := le_max_left _ _
      exact zpow_le_zpow_right₀ (by norm_num) (by omega)
    _ = 2 ^ 24 * 2 ^ rneUnit a := by rw [zpow_add₀ two_ne_zero]; norm_cast

/-- Above the least unit a magnitude has exactly 24 significant bits before the point. -/
theorem le_of_rneUnit {a : Rat} (ha : 0 < a) (hu : rneUnit a ≠ -149) : 2 ^ 23 * 2 ^ rneUnit a ≤ a := by
  have hunit : rneUnit a = floorLog2 a - 23 := by unfold rneUnit at *; omega
  calc (2 : Rat) ^ 23 * 2 ^ rneUnit a = 2 ^ floorLog2 a := by
        rw [hunit, show floorLog2 a = 23 + (floorLog2 a - 23) by omega, zpow_add₀ two_ne_zero]
        norm_num
    _ ≤ a := (floorLog2_spec ha).1

/-- The same on the whole normal range, whose first binade has the least unit. -/
theorem le_of_normal {a : Rat} (ha : 0 < a) (hnormal : 1 / 2 ^ 126 ≤ a) : 2 ^ 23 * 2 ^ rneUnit a ≤ a := by
  by_cases hu : rneUnit a = -149
  · rw [hu]
    norm_num at hnormal ⊢
    exact hnormal
  · exact le_of_rneUnit ha hu

/-- The significand has at most 24 bits, or is the carry out of them. -/
theorem rneSignificand_le {a : Rat} (ha : 0 < a) : rneSignificand a ≤ 2 ^ 24 := by
  have hu : (0 : Rat) < 2 ^ rneUnit a := by positivity
  refine roundEven_le (by positivity) ?_
  rw [div_le_iff₀ hu]
  exact_mod_cast (lt_of_rneUnit ha).le

/-- Above the least unit the significand has its hidden 1. -/
theorem le_rneSignificand {a : Rat} (ha : 0 < a) (hu : rneUnit a ≠ -149) : 2 ^ 23 ≤ rneSignificand a := by
  have hpos : (0 : Rat) < 2 ^ rneUnit a := by positivity
  refine le_roundEven (by positivity) ?_
  rw [le_div_iff₀ hpos]
  exact_mod_cast le_of_rneUnit ha hu

/-- The rounded magnitude is within half a unit. -/
theorem rneMagnitude_close {a : Rat} (ha : 0 < a) : |rneMagnitude a - a| ≤ 2 ^ rneUnit a / 2 := by
  have hu : (0 : Rat) < 2 ^ rneUnit a := by positivity
  have hclose := (roundEven_close (q := a / 2 ^ rneUnit a) (by positivity)).1
  have hscale : rneMagnitude a - a = (rneSignificand a - a / 2 ^ rneUnit a) * 2 ^ rneUnit a := by
    unfold rneMagnitude; field_simp
  rw [hscale, abs_mul, abs_of_pos hu]
  unfold rneSignificand
  linarith [mul_le_mul_of_nonneg_right hclose hu.le]

/-- No other multiple of the unit is nearer than the rounded magnitude, whose significand is even on a tie. -/
theorem rneMagnitude_nearest_multiple {a : Rat} (ha : 0 < a) (n : Int) :
    |rneMagnitude a - a| ≤ |n * 2 ^ rneUnit a - a| ∧
      (n * 2 ^ rneUnit a ≠ rneMagnitude a → |n * 2 ^ rneUnit a - a| = |rneMagnitude a - a| →
        rneSignificand a % 2 = 0) := by
  have hu : (0 : Rat) < 2 ^ rneUnit a := by positivity
  have hscale (z : Rat) : |z * 2 ^ rneUnit a - a| = |z - a / 2 ^ rneUnit a| * 2 ^ rneUnit a := by
    rw [← abs_of_pos hu, ← abs_mul, abs_of_pos hu]; congr 1; field_simp
  obtain ⟨hnear, htie⟩ := roundEven_nearest (q := a / 2 ^ rneUnit a) (by positivity) n
  unfold rneMagnitude
  rw [hscale, hscale]
  refine ⟨mul_le_mul_of_nonneg_right hnear hu.le, fun hne heq => htie (fun h => hne ?_) ?_⟩
  · rw [h]; rfl
  · exact mul_right_cancel₀ hu.ne' heq

/-- A value of the format is a multiple of the unit of `a`, or has fewer bits than `a` and lies below its binade. -/
theorem multiple_or_lt_binade {a y : Rat} {e n : Nat} (ha : 0 < a) (hn : n < 2 ^ 24)
    (hy : |y| = n * 2 ^ ((e : Int) - 149)) :
    (∃ i : Int, y = i * 2 ^ rneUnit a) ∨ (y < 2 ^ 23 * 2 ^ rneUnit a ∧ 2 ^ 23 * 2 ^ rneUnit a ≤ a) := by
  obtain hle | hgt := le_or_gt (rneUnit a) ((e : Int) - 149)
  · left
    obtain ⟨j, hj⟩ := Int.eq_ofNat_of_zero_le (a := (e : Int) - 149 - rneUnit a) (by omega)
    have habs : |y| = ((n * 2 ^ j : Int) : Rat) * 2 ^ rneUnit a := by
      rw [hy, show (e : Int) - 149 = j + rneUnit a by omega, zpow_add₀ two_ne_zero]
      push_cast
      rw [zpow_natCast, mul_assoc]
    obtain hpos | hneg := abs_choice y
    · exact ⟨_, hpos ▸ habs⟩
    · refine ⟨-(n * 2 ^ j), ?_⟩
      rw [hneg] at habs
      rw [Int.cast_neg, neg_mul, ← habs, neg_neg]
  · right
    refine ⟨?_, le_of_rneUnit ha (by omega)⟩
    calc y ≤ n * 2 ^ ((e : Int) - 149) := hy ▸ le_abs_self y
      _ < 2 ^ 24 * 2 ^ ((e : Int) - 149) := by gcongr; exact_mod_cast hn
      _ ≤ 2 ^ 24 * 2 ^ (rneUnit a - 1) :=
        mul_le_mul_of_nonneg_left (zpow_le_zpow_right₀ (by norm_num) (by omega)) (by norm_num)
      _ = 2 ^ 23 * 2 ^ rneUnit a := by rw [zpow_sub_one₀ two_ne_zero]; ring

/-- No value of the format is nearer than the rounded magnitude, whose significand is even on a tie. Below the binade
of `a` a value is beaten by the binade's first value, which is a multiple of the unit. -/
theorem rneMagnitude_nearest {a y : Rat} {e n : Nat} (ha : 0 < a) (hn : n < 2 ^ 24)
    (hy : |y| = n * 2 ^ ((e : Int) - 149)) :
    |rneMagnitude a - a| ≤ |y - a| ∧
      (y ≠ rneMagnitude a → |y - a| = |rneMagnitude a - a| → rneSignificand a % 2 = 0) := by
  obtain ⟨i, rfl⟩ | ⟨hlow, hbinade⟩ := multiple_or_lt_binade ha hn hy
  · exact rneMagnitude_nearest_multiple ha i
  · have hfirst := (rneMagnitude_nearest_multiple ha (2 ^ 23)).1
    rw [Int.cast_pow, Int.cast_ofNat, abs_of_nonpos (sub_nonpos.2 hbinade)] at hfirst
    have hfar : |rneMagnitude a - a| < |y - a| := by
      rw [abs_of_neg (a := y - a) (by linarith)]; linarith
    exact ⟨hfar.le, fun _ heq => absurd heq hfar.ne'⟩

/-! ### The word `rne32` answers -/

/-- A magnitude up to the greatest finite value is rounded to a finite word: in the last binade the significand stays
below the carry. -/
theorem rneSignificand_finite {a : Rat} (ha : 0 < a) (hmax : a ≤ (2 - 1 / 2 ^ 23) * 2 ^ 127) :
    (rneUnit a + 149).toNat * 2 ^ 23 + rneSignificand a < 0x7F800000 := by
  have hlow := neg_149_le_rneUnit a
  have hu : (0 : Rat) < 2 ^ rneUnit a := by positivity
  have hlast : (2 - 1 / 2 ^ 23) * 2 ^ 127 = ((2 ^ 24 - 1) * 2 ^ (104 : Int) : Rat) := by norm_num
  have hunit : rneUnit a ≤ 104 := by
    by_contra h
    have hbinade : (2 : Rat) ^ 23 * 2 ^ (105 : Int) ≤ 2 ^ 23 * 2 ^ rneUnit a :=
      mul_le_mul_of_nonneg_left (zpow_le_zpow_right₀ (by norm_num) (by omega)) (by norm_num)
    have habove := hbinade.trans (le_of_rneUnit ha (by omega))
    norm_num at habove hmax
    linarith
  obtain hlt | heq := hunit.lt_or_eq
  · have := rneSignificand_le ha
    omega
  · have hsig : rneSignificand a ≤ 2 ^ 24 - 1 := by
      refine roundEven_le (by positivity) ?_
      rw [div_le_iff₀ hu, heq]
      push_cast
      linarith
    omega

theorem f32_rne32_zero : f32 (rne32 0) = some 0 := by decide +kernel

/-- The value of `rne32`, while it is finite. -/
theorem f32_rne32 {q : Rat} (hq : q ≠ 0) (hmax : |q| ≤ (2 - 1 / 2 ^ 23) * 2 ^ 127) :
    f32 (rne32 q) = some (rneValue q) := by
  have ha := abs_pos.2 hq
  have hlow := neg_149_le_rneUnit |q|
  have hfinite := rneSignificand_finite ha hmax
  have hnormal : (rneUnit |q| + 149).toNat = 0 ∨ 2 ^ 23 ≤ rneSignificand |q| := by
    by_cases hu : rneUnit |q| = -149
    · left; omega
    · exact .inr (le_rneSignificand ha hu)
  rw [rne32_of_ne_zero hq, min_eq_left hfinite.le, f32_ofNat (q < 0) (rneSignificand_le ha) hnormal hfinite,
    show ((rneUnit |q| + 149).toNat : Int) - 149 = rneUnit |q| by omega]
  rfl

/-- The last significand bit of the word is the parity of the rounded significand. -/
theorem rne32_lastBit {q : Rat} (hq : q ≠ 0) (hmax : |q| ≤ (2 - 1 / 2 ^ 23) * 2 ^ 127)
    (heven : rneSignificand |q| % 2 = 0) : (rne32 q).getLsbD 0 = false := by
  have hfinite := rneSignificand_finite (abs_pos.2 hq) hmax
  rw [rne32_of_ne_zero hq, min_eq_left hfinite.le, BitVec.getLsbD_ofNat]
  simp only [Nat.testBit_zero, Bool.and_eq_false_iff, decide_eq_false_iff_not]
  right
  split <;> omega

/-- A number with the sign of `q` is as far from `q` as their magnitudes are apart. -/
theorem abs_signed_sub (q y : Rat) : |(if q < 0 then -y else y) - q| = |y - (|q|)| := by
  split
  case isTrue h => rw [abs_of_neg h, abs_sub_comm]; congr 1; ring
  case isFalse h => rw [abs_of_nonneg (not_lt.1 h)]

theorem abs_rneValue_sub (q : Rat) : |rneValue q - q| = |rneMagnitude |q| - (|q|)| := abs_signed_sub q _

/-- No finite word is nearer to `q` than its rounding, whose significand is even on a tie with another value: the
statement on magnitudes, with the sign of `q` put back. -/
theorem rneValue_nearest {q x : Rat} {w : U32} (hq : q ≠ 0) (hx : f32 w = some x) :
    |rneValue q - q| ≤ |x - q| ∧ (x ≠ rneValue q → |x - q| = |rneValue q - q| → rneSignificand |q| % 2 = 0) := by
  obtain ⟨e, n, hn, hmag⟩ := abs_of_f32 hx
  obtain ⟨y, rfl⟩ : ∃ y, x = if q < 0 then -y else y := ⟨if q < 0 then -x else x, by split <;> simp⟩
  rw [apply_ite abs, abs_neg, ite_self] at hmag
  obtain ⟨hnear, htie⟩ := rneMagnitude_nearest (abs_pos.2 hq) hn hmag
  rw [abs_rneValue_sub, abs_signed_sub]
  exact ⟨hnear, fun hne heq => htie (fun h => hne (by rw [h]; rfl)) heq⟩

/-- On the normal range half a unit is at most `2^-24` of the magnitude. -/
theorem rneMagnitude_relative_error {a : Rat} (hnormal : 1 / 2 ^ 126 ≤ a) : |rneMagnitude a - a| ≤ a / 2 ^ 24 := by
  have ha : 0 < a := lt_of_lt_of_le (by positivity) hnormal
  have hbinade := le_of_normal ha hnormal
  calc |rneMagnitude a - a| ≤ 2 ^ rneUnit a / 2 := rneMagnitude_close ha
    _ = 2 ^ 23 * 2 ^ rneUnit a / 2 ^ 24 := by ring
    _ ≤ a / 2 ^ 24 := by gcongr

/-- Settles O36. Zero is its own rounding; every other rational is rounded as its magnitude is, in the unit of its
binade. -/
theorem rne32RoundsToNearestEven : Obligations.Rne32RoundsToNearestEven := by
  unfold Obligations.Rne32RoundsToNearestEven
  intro q hmax
  by_cases hq : q = 0
  · subst hq
    exact ⟨0, f32_rne32_zero, by simp, fun w x _ hne htie => absurd (by simpa using htie) hne, by simp⟩
  · refine ⟨rneValue q, f32_rne32 hq hmax, fun w x hx => (rneValue_nearest hq hx).1, fun w x hx hne htie => ?_,
      fun hnormal => ?_⟩
    · exact rne32_lastBit hq hmax ((rneValue_nearest hq hx).2 hne htie)
    · rw [abs_rneValue_sub]
      exact rneMagnitude_relative_error hnormal

end Sys2Proof.Machine
end

section
/-! The opcode map of spec/30_encoding.md: which words and frames have a row (R94, R102, R104), which bits of a word a
row reads (R101, R103), and the selectors that name nothing (R105). -/

namespace Sys2Proof.Machine

/-! ### Bits that have no row -/

/-- Every row of the opcode map has an OP outside the ranges of R104. -/
theorem decode_word_of_unassigned {w : ControlWord} (h : unassigned (opField w).toNat) :
    decode (.word w) = .error (.unassignedOpcode (opField w)) := by
  unfold unassigned at h
  rw [decode, decodeWord]
  split
  case h_48 => rfl
  all_goals omega

/-- CMD by CMD, the arms before the last take ADDR 0, 1, 2 and 7 of CMD 0, ADDR 0, 1 and 7 of CMD 1 to 3, and every
ADDR of CMD 4 to 7. -/
theorem decode_frame_error_iff (f : U24) :
    (∃ e, decode (.frame f) = .error e) ↔
      ((cmdField f).toNat ≤ 3 ∧ 3 ≤ (addrField f).toNat ∧ (addrField f).toNat ≤ 6) ∨
      (1 ≤ (cmdField f).toNat ∧ (cmdField f).toNat ≤ 3 ∧ (addrField f).toNat = 2) := by
  have hcmd := (cmdField f).isLt
  have haddr := (addrField f).isLt
  rw [decode, decodeFrame]
  split
  case h_18 =>
    refine iff_of_true ⟨_, rfl⟩ ?_
    generalize (cmdField f).toNat = cmd, (addrField f).toNat = addr at *
    interval_cases cmd <;>
      simp only [reduceCtorEq, OfNat.ofNat_ne_zero, imp_false, true_imp_iff, not_true] at * <;> omega
  all_goals exact iff_of_false (by simp) (by omega)

/-- Settles O5. `decode_frame_error_iff` says it of every frame. -/
theorem reservedFramesHaveNoRow : Obligations.ReservedFramesHaveNoRow := decode_frame_error_iff

/-- A control word without a row is ignored (R104). -/
theorem step_of_decode_error {s : State} {rest : List Input} {w : ControlWord} {e : DecodeError}
    (hin : s.inputs = .word :: rest) (hf : s.fault = .none) (hw : s.stream[s.pc]? = some w)
    (he : decode (.word w) = .error e) :
    step s = .next (State.answered { s with inputs := rest } .ign .none) := by
  have hfetch : State.fetchWord { s with inputs := rest } = some w := hw
  simp only [step, hin, stepWord, hfetch, he]
  exact State.control_of_none _ _ hf

/-- Settles O4. No row of the opcode map fits, and a word that does not decode is ignored. -/
theorem unassignedOpcodeIsIgnored : Obligations.UnassignedOpcodeIsIgnored := by
  unfold Obligations.UnassignedOpcodeIsIgnored
  intro s rest w hin hf hw hop
  exact step_of_decode_error hin hf hw (decode_word_of_unassigned hop)

/-! ### Bits a row does not read -/

/-- A mask whose bits are all 1 in a field leaves the field as it is. -/
theorem extractLsb'_and_mask {n start len : Nat} (x : BitVec n) {mask : BitVec n}
    (h : mask.extractLsb' start len = BitVec.allOnes len) :
    (x &&& mask).extractLsb' start len = x.extractLsb' start len := by
  rw [BitVec.extractLsb'_and, h, BitVec.and_allOnes]

section Fields

variable (w : ControlWord) {op : Nat}

/-- Every form uses OP (R114). -/
theorem opField_and_usedBits : opField (w &&& usedBits op) = opField w := by
  refine extractLsb'_and_mask w ?_
  unfold usedBits
  split_ifs <;> decide

/-- The channel words and the oscillator words use SEL. -/
theorem selField_and_usedBits (h : (0x10 ≤ op ∧ op ≤ 0x17) ∨ (0x30 ≤ op ∧ op ≤ 0x3B)) :
    selField (w &&& usedBits op) = selField w := by
  refine extractLsb'_and_mask w ?_
  rw [usedBits, if_pos h]
  split_ifs <;> decide

/-- The words that use the whole of IMM16. -/
theorem immField_and_usedBits
    (h : op ∈ [0x03, 0x04, 0x10, 0x12, 0x16, 0x23, 0x28, 0x2A, 0x2E, 0x36, 0x37, 0x39, 0x3A]) :
    immField (w &&& usedBits op) = immField w := by
  refine extractLsb'_and_mask w ?_
  rw [usedBits, if_pos h]
  split_ifs <;> decide

/-- The words that use the whole of W32. -/
theorem w32Field_and_usedBits (h : op ∈ [0x05, 0x06, 0x11, 0x17, 0x22, 0x32, 0x33, 0x34, 0x35, 0x37, 0x38]) :
    w32Field (w &&& usedBits op) = w32Field w := by
  refine extractLsb'_and_mask w ?_
  rw [usedBits, if_pos h]
  split_ifs <;> decide

/-- FR_LOAD uses the low 24 bits of W32 (R103). -/
theorem frLoad_operand_and_usedBits :
    (w32Field (w &&& usedBits 0x02)).extractLsb' 0 24 = (w32Field w).extractLsb' 0 24 := by
  rw [w32Field, BitVec.extractLsb'_and]
  exact extractLsb'_and_mask _ (by decide)

/-- The flag of CH_SETOUT is bit 0 of W32 (R103). -/
theorem chSetout_flag_and_usedBits :
    (w32Field (w &&& usedBits 0x10)).getLsbD 0 = (w32Field w).getLsbD 0 := by
  simp [w32Field, usedBits]

/-- The flag of CH_SETV is bit 0 of IMM16 (R103). -/
theorem chSetv_flag_and_usedBits :
    (immField (w &&& usedBits 0x11)).getLsbD 0 = (immField w).getLsbD 0 := by
  simp [immField, usedBits]

/-- DEV_WRITE uses bits 16:0 of W32: the address, the command and the flag (R103). -/
theorem devWrite_operand_and_usedBits :
    (w32Field (w &&& usedBits 0x2E)).extractLsb' 0 8 = (w32Field w).extractLsb' 0 8 ∧
    (w32Field (w &&& usedBits 0x2E)).extractLsb' 8 8 = (w32Field w).extractLsb' 8 8 ∧
    (w32Field (w &&& usedBits 0x2E)).getLsbD 16 = (w32Field w).getLsbD 16 := by
  rw [w32Field, BitVec.extractLsb'_and]
  exact ⟨extractLsb'_and_mask _ (by decide), extractLsb'_and_mask _ (by decide), by simp [w32Field, usedBits]⟩

/-- OP selects the row, and each row reads only bits that its form uses (R103). -/
theorem decode_word_and_usedBits :
    decode (.word (w &&& usedBits (opField w).toNat)) = decode (.word w) := by
  simp only [decode, decodeWord, opField_and_usedBits]
  generalize (opField w).toNat = op
  split
  case h_2 => -- FR_LOAD
    rw [frLoad_operand_and_usedBits]
  case h_11 => -- CH_SETOUT
    rw [selField_and_usedBits w (by decide), immField_and_usedBits w (by decide), chSetout_flag_and_usedBits]
  case h_12 => -- CH_SETV
    rw [selField_and_usedBits w (by decide), chSetv_flag_and_usedBits, w32Field_and_usedBits w (by decide)]
  case h_33 => -- DEV_WRITE
    obtain ⟨haddr, hcmd, hcfg⟩ := devWrite_operand_and_usedBits w
    rw [immField_and_usedBits w (by decide), haddr, hcmd, hcfg]
  all_goals simp [selField_and_usedBits, immField_and_usedBits, w32Field_and_usedBits]

end Fields

/-- The bit that R184 and R236 read of a v16 operand. -/
theorem getLsbD_zero_and_one (v : U16) : (v &&& 1).getLsbD 0 = v.getLsbD 0 := by
  simp

/-- Settles O3. The two v16 operands are read at bit 0 alone. -/
theorem unusedBitsAreIgnored : Obligations.UnusedBitsAreIgnored := by
  unfold Obligations.UnusedBitsAreIgnored
  refine ⟨fun w _ => (decode_word_and_usedBits w).symm, fun v s => ?_, fun sel v s => ?_⟩
  · change execDevIntref v s = execDevIntref (v &&& 1) s
    simp only [execDevIntref, getLsbD_zero_and_one]
  · change execOscVmode sel v s = execOscVmode sel (v &&& 1) s
    simp only [execOscVmode, getLsbD_zero_and_one]

/-! ### Selectors that name nothing -/

/-- Only SEL 0 and 1 name a slot (R105). -/
theorem slotOf_of_two_le {sel : Byte} (h : 2 ≤ sel.toNat) : slotOf sel = none := by
  have h0 : sel ≠ 0 := by rintro rfl; simp at h
  have h1 : sel ≠ 1 := by rintro rfl; simp at h
  rw [slotOf, if_neg h0, if_neg h1]

/-- Every channel word selects its slot before it does anything (R150). -/
theorem exec_eq_channelWord {i : Instr} {sel : Byte} (h : channelSelOf i = some sel) :
    ∃ body, ∀ s, exec i s = s.channelWord sel body := by
  cases i <;> cases h
  all_goals exact ⟨_, fun _ => rfl⟩

/-- Every oscillator word selects its oscillator before it does anything (R219). -/
theorem exec_eq_oscWord {i : Instr} {sel : Byte} (h : oscSelOf i = some sel) :
    ∃ body, ∀ s, exec i s = s.oscWord sel body := by
  cases i <;> cases h
  all_goals exact ⟨_, fun _ => rfl⟩

/-- Settles O22. The selection comes first, so no word's own body runs. -/
theorem badSelectorIsIgnored : Obligations.BadSelectorIsIgnored := by
  unfold Obligations.BadSelectorIsIgnored
  constructor
  · intro i sel s hf hsel hbad
    obtain ⟨body, hexec⟩ := exec_eq_channelWord hsel
    rw [hexec, s.channelWord_of_no_slot sel body hf (slotOf_of_two_le hbad)]
  · intro i sel s hf hsel hbad
    obtain ⟨body, hexec⟩ := exec_eq_oscWord hsel
    rw [hexec, s.oscWord_of_none sel body hf (List.getElem?_eq_none hbad)]

end Sys2Proof.Machine
end

section
/-! The codec of spec/40_codec.md: the fields of a byte after one of them is packed (R133 to R135, R140), the fields of
a frame as numbers (R136 to R139), and the codec's control words. -/

namespace Sys2Proof.Machine

/-! ### A field of a byte after a number is put in under a mask -/

section Insert

variable (b : Byte) {mask : Byte} {start len v : Nat}

/-- A field of the number itself. -/
theorem toNat_extractLsb'_ofNat (hv : v < 2 ^ 8) :
    ((BitVec.ofNat 8 v).extractLsb' start len).toNat = v / 2 ^ start % 2 ^ len := by
  rw [BitVec.extractLsb'_toNat, BitVec.toNat_ofNat, Nat.mod_eq_of_lt hv, Nat.shiftRight_eq_div_pow]

/-- A field that the mask clears holds the number's bits there. -/
theorem toNat_field_of_cleared (hmask : mask.extractLsb' start len = 0#len) (hv : v < 2 ^ 8) :
    (((b &&& mask) ||| BitVec.ofNat 8 v).extractLsb' start len).toNat = v / 2 ^ start % 2 ^ len := by
  rw [BitVec.extractLsb'_or, BitVec.extractLsb'_and, hmask, BitVec.and_zero, BitVec.zero_or,
    toNat_extractLsb'_ofNat hv]

/-- A field that the mask keeps and where the number has no bits stays as it was. -/
theorem field_of_kept (hmask : mask.extractLsb' start len = BitVec.allOnes len) (hv : v < 2 ^ 8)
    (hzero : v / 2 ^ start % 2 ^ len = 0) :
    ((b &&& mask) ||| BitVec.ofNat 8 v).extractLsb' start len = b.extractLsb' start len := by
  have hbits : (BitVec.ofNat 8 v).extractLsb' start len = 0#len :=
    BitVec.eq_of_toNat_eq (by rw [toNat_extractLsb'_ofNat hv, hzero, BitVec.toNat_zero])
  rw [BitVec.extractLsb'_or, extractLsb'_and_mask b hmask, hbits, BitVec.or_zero]

end Insert

/-! ### Packing and unpacking (R133 to R138, R140) -/

section Pack

variable (f : Frame)

/-- The data bytes are the two halves of the shifted value. -/
theorem unpackDataField_packData (v : U16) : unpackDataField (packData f v) = v <<< f.off.val :=
  BitVec.extractLsb'_append_extractLsb' (w := 8) (len := 8)

/-- A shift to bit 3 as a product. -/
theorem ofNat_shiftLeft_three (c : Nat) : BitVec.ofNat 8 c <<< 3 = BitVec.ofNat 8 (c * 8) := by
  rw [BitVec.shiftLeft_eq_mul_twoPow, BitVec.ofNat_mul]
  rfl

/-- `packCmd` with the shifted command as a number (R135). -/
theorem packCommand_raw0 (c : Nat) :
    (packCommand f c).raw0 = (f.raw0 &&& 0xC7) ||| BitVec.ofNat 8 (min c 7 * 8) :=
  congrArg (f.raw0 &&& 0xC7 ||| ·) (ofNat_shiftLeft_three (min c 7))

theorem unpackAddress_packAddress (a : Nat) : (unpackAddress (packAddress f a)).toNat = min a 7 := by
  rw [unpackAddress, packAddress, toNat_field_of_cleared _ (by decide) (by omega)]
  omega

theorem unpackCommand_packCommand (c : Nat) : (unpackCommand (packCommand f c)).toNat = min c 7 := by
  rw [unpackCommand, packCommand_raw0, toNat_field_of_cleared _ (by decide) (by omega)]
  omega

theorem unpackCommand_packAddress (a : Nat) : unpackCommand (packAddress f a) = unpackCommand f :=
  field_of_kept _ (by decide) (by omega) (by omega)

theorem unpackAddress_packCommand (c : Nat) : unpackAddress (packCommand f c) = unpackAddress f := by
  rw [unpackAddress, packCommand_raw0]
  exact field_of_kept _ (by decide) (by omega) (by omega)

/-- `packAddress` keeps the reserved bits (R134). -/
theorem packAddress_reserved (a : Nat) : (packAddress f a).raw0.extractLsb' 6 2 = f.raw0.extractLsb' 6 2 :=
  field_of_kept _ (by decide) (by omega) (by omega)

/-- `packCmd` keeps the reserved bits (R135). -/
theorem packCommand_reserved (c : Nat) : (packCommand f c).raw0.extractLsb' 6 2 = f.raw0.extractLsb' 6 2 := by
  rw [packCommand_raw0]
  exact field_of_kept _ (by decide) (by omega) (by omega)

end Pack

/-- Settles O24. Each packer clears its own field of `raw[0]`, or none, and puts in bits that fit that field. -/
theorem codecLaws : Obligations.CodecLaws := by
  unfold Obligations.CodecLaws
  exact ⟨unpackDataField_packData, unpackAddress_packAddress, unpackCommand_packCommand,
    fun f a => ⟨unpackCommand_packAddress f a, packAddress_reserved f a, rfl, rfl⟩,
    fun f c => ⟨unpackAddress_packCommand f c, packCommand_reserved f c, rfl, rfl⟩,
    fun _ _ => rfl⟩

/-! ### The fields of a frame as numbers (R136 to R139) -/

/-- Words of any widths side by side, as `frame_toNat` says it of a frame. -/
theorem append_toNat {m n : Nat} (x : BitVec m) (y : BitVec n) : (x ++ y).toNat = x.toNat * 2 ^ n + y.toNat := by
  rw [BitVec.toNat_append, ← Nat.shiftLeft_add_eq_or_of_lt y.isLt, Nat.shiftLeft_eq]

/-- A field of three bits as a number. -/
theorem extractLsb'_three_eq_ofNat (b : Byte) (start : Nat) :
    b.extractLsb' start 3 = BitVec.ofNat 3 (b.toNat / 2 ^ start % 8) :=
  BitVec.eq_of_toNat_eq (by simp [BitVec.extractLsb'_toNat, Nat.shiftRight_eq_div_pow])

/-- The data field as a number (R136). -/
theorem unpackDataField_eq_ofNat (f : Frame) :
    unpackDataField f = BitVec.ofNat 16 (f.raw1.toNat * 256 + f.raw2.toNat) := by
  have hvalue : (unpackDataField f).toNat = f.raw1.toNat * 256 + f.raw2.toNat := append_toNat f.raw1 f.raw2
  rw [← hvalue, BitVec.ofNat_toNat, BitVec.setWidth_eq]

/-- The address field as a number (R137). -/
theorem unpackAddress_eq_ofNat (f : Frame) : unpackAddress f = BitVec.ofNat 3 (f.raw0.toNat % 8) := by
  rw [unpackAddress, extractLsb'_three_eq_ofNat, pow_zero, Nat.div_one]

/-- The command field as a number (R138). -/
theorem unpackCommand_eq_ofNat (f : Frame) : unpackCommand f = BitVec.ofNat 3 (f.raw0.toNat / 8 % 8) :=
  extractLsb'_three_eq_ofNat f.raw0 3

/-- The value of three frame bytes as a number (R80). -/
theorem frameValue_eq_ofNat (b0 b1 b2 : Byte) :
    frameValue b0 b1 b2 = BitVec.ofNat 24 (b0.toNat * 65536 + b1.toNat * 256 + b2.toNat) := by
  have hvalue : (frameValue b0 b1 b2).toNat = b0.toNat * 65536 + b1.toNat * 256 + b2.toNat := by
    rw [frameValue, append_toNat, append_toNat]
    ring
  rw [← hvalue, BitVec.ofNat_toNat, BitVec.setWidth_eq]

/-! ### The codec's control words (R130 to R139) -/

section Words

variable (s : State)

/-- A word that writes `FR` and answers OK. -/
theorem State.control_setFr (f : State → Frame) (h : s.fault = .none) :
    s.control (fun u => (u.setFr (f u)).ok .none) = .next ({ s with fr := f s }.answered .ok .none) :=
  s.control_of_none _ h

/-- A word that answers OK and writes nothing. -/
theorem State.control_ok (v : State → RespValue) (h : s.fault = .none) :
    s.control (fun u => u.ok (v u)) = .next (s.answered .ok (v s)) :=
  s.control_of_none _ h

end Words

/-- Settles O25. Each word writes `FR` alone, with the frame the statement writes out; for PACK_CMD
`packCommand_raw0` says so. -/
theorem codecWritersResult : Obligations.CodecWritersResult := by
  unfold Obligations.CodecWritersResult
  intro s hf
  refine ⟨s.control_setFr _ hf, fun w => s.control_setFr _ hf, fun n => ⟨offsetOf n, rfl, s.control_setFr _ hf⟩,
    fun v => s.control_setFr _ hf, fun a => s.control_setFr _ hf, fun c => ?_⟩
  rw [← packCommand_raw0]
  exact s.control_setFr _ hf

/-- Settles O26. Each word writes nothing, and its response is a field of `FR` as a number. -/
theorem codecReadersResult : Obligations.CodecReadersResult := by
  unfold Obligations.CodecReadersResult
  intro s hf
  rw [← unpackDataField_eq_ofNat, ← unpackAddress_eq_ofNat, ← unpackCommand_eq_ofNat, ← frameValue_eq_ofNat]
  exact ⟨s.control_ok _ hf, s.control_ok _ hf, s.control_ok _ hf, s.control_ok _ hf⟩

end Sys2Proof.Machine
end

section
/-! The channel words of spec/41_channel.md: the frame a write sends, written out (R63, R80, R180), what a write and the
cache it guards end in, and the next states of R151 to R159. -/

namespace Sys2Proof.Machine

/-! ### Identities and gain modes -/

/-- The identities of R4. -/
theorem validId_iff {id : Byte} : validId id = true ↔ id = 0 ∨ id = 1 := by
  simp [validId]

/-- Every other identity is refused (R151). -/
theorem validId_eq_false {id : Byte} (h0 : id ≠ 0) (h1 : id ≠ 1) : validId id = false :=
  Bool.eq_false_iff.mpr fun h => (validId_iff.mp h).elim h0 h1

/-- A valid identity fits the address field of a frame. -/
theorem toNat_lt_of_validId {id : Byte} (h : validId id = true) : id.toNat < 8 := by
  rcases validId_iff.mp h with rfl | rfl <;> decide

/-- The gain modes are numbered 0 to 3 (R107). -/
theorem gainMode_number_cases {mode : U16} (h : mode.toNat ≤ 3) : mode = 0 ∨ mode = 1 ∨ mode = 2 ∨ mode = 3 := by
  bv_omega

/-- A gain mode's data in a frame and its factors follow its number (R85, R161). -/
theorem gainModeOf_of_le {mode : U16} (h : mode.toNat ≤ 3) :
    ∃ m, gainModeOf mode = some m ∧ gainData CmdCode.dac8562 m = mode ∧ ∀ id, gainFactor m id = factorOf mode id := by
  rcases gainMode_number_cases h with rfl | rfl | rfl | rfl
  · exact ⟨.intVref, rfl, rfl, fun _ => rfl⟩
  · exact ⟨.a1b2, rfl, rfl, fun _ => rfl⟩
  · exact ⟨.a2b1, rfl, rfl, fun _ => rfl⟩
  · exact ⟨.reset, rfl, rfl, fun _ => rfl⟩

/-- No gain mode has a number above 3 (R107). -/
theorem gainModeOf_of_lt {mode : U16} (h : 3 < mode.toNat) : gainModeOf mode = none := by
  have h0 : mode ≠ 0 := by rintro rfl; simp at h
  have h1 : mode ≠ 1 := by rintro rfl; simp at h
  have h2 : mode ≠ 2 := by rintro rfl; simp at h
  have h3 : mode ≠ 3 := by rintro rfl; simp at h
  rw [gainModeOf, if_neg h0, if_neg h1, if_neg h2, if_neg h3]

/-! ### The bytes of a frame -/

/-- `raw[0]` of a frame: the command at bit 3, the address below it (R80, R134, R135). -/
theorem buildFrame_raw0 (data : U16) (off : Fin 5) {addr cmd : Nat} (ha : addr < 8) (hc : cmd < 8) :
    (buildFrame data addr cmd off).raw0 = BitVec.ofNat 8 (cmd * 8) ||| BitVec.ofNat 8 addr := by
  have hbits : ∀ a < 8, ∀ c < 8, (packCommand (packAddress (freshFrame 0) a) c).raw0 =
      BitVec.ofNat 8 (c * 8) ||| BitVec.ofNat 8 a := by decide
  exact hbits addr ha cmd hc

/-- A code of 0 is 0 at every offset. -/
theorem State.dataOf_zero (s : State) : s.dataOf 0 = 0 := BitVec.zero_shiftLeft _

/-- A gain mode's number fits the low byte of the data field. -/
theorem hiByte_eq_zero_of_le {mode : U16} (h : mode.toNat ≤ 3) : hiByte mode = 0x00 := by
  rcases gainMode_number_cases h with rfl | rfl | rfl | rfl <;> rfl

/-- The data bytes of a power frame: the mode in bits 5:4, the channel's bit below (R89). -/
theorem powerData_bytes (pd : BitVec 2) {id : Byte} (h : validId id = true) :
    hiByte (powerData CmdCode.dac8562 pd id) = 0x00 ∧
    loByte (powerData CmdCode.dac8562 pd id) =
      BitVec.ofNat 8 (pd.toNat * 16) ||| (if id = 0 then 0x01 else 0x02) := by
  rcases validId_iff.mp h with rfl | rfl <;> revert pd <;> decide

/-! ### A write and what follows it -/

section Sends

variable {s : State}

/-- A write whose exchange completes sends the frame of its command, address and data (R180). -/
theorem State.write_of_ok (data : U16) {addr cmd : Nat} (cfgWrite : Bool) (ha : addr < 8) (hc : cmd < 8)
    (hb : s.busOk = true) :
    s.write data addr cmd cfgWrite = s.sent (BitVec.ofNat 8 (cmd * 8) ||| BitVec.ofNat 8 addr)
      (hiByte (data <<< (if cfgWrite then 0 else s.cfg.bitOffset).val))
      (loByte (data <<< (if cfgWrite then 0 else s.cfg.bitOffset).val)) := by
  rw [s.write_eq, s.exchange_of_ok _ _ _ hb, buildFrame_raw0 data _ ha hc]
  rfl

/-- A write whose exchange does not complete faults, whatever the frame (R263). -/
theorem State.write_of_not_ok (data : U16) (addr cmd : Nat) (cfgWrite : Bool) (hf : s.fault = .none)
    (hb : s.busOk = false) : s.write data addr cmd cfgWrite = s.busFailed :=
  s.exchange_of_not_ok _ _ _ hf hb

/-- A data write to a slot of valid identity: the identity is the address and the data is shifted (R66, R83). -/
theorem State.write_chanId_of_ok (code : U16) {slot : Slot} {cmd : Nat} (hv : validId (s.chanId slot) = true)
    (hc : cmd < 8) (hb : s.busOk = true) :
    s.write code (s.chanId slot).toNat cmd false =
      s.sent (BitVec.ofNat 8 (cmd * 8) ||| s.chanId slot) (hiByte (s.dataOf code)) (loByte (s.dataOf code)) := by
  rw [State.write_of_ok code false (toNat_lt_of_validId hv) hc hb, BitVec.ofNat_toNat, BitVec.setWidth_eq]
  rfl

/-- A configuration write: the data is not shifted (R66). -/
theorem State.write_config_of_ok (data : U16) {addr cmd : Nat} (ha : addr < 8) (hc : cmd < 8) (hb : s.busOk = true) :
    s.write data addr cmd true =
      s.sent (BitVec.ofNat 8 (cmd * 8) ||| BitVec.ofNat 8 addr) (hiByte data) (loByte data) := by
  rw [State.write_of_ok data true ha hc hb]
  simp

/-- The response returns the frame just sent (R112). -/
theorem State.okFrame_sent (b0 b1 b2 : Byte) (hf : s.fault = .none) :
    (s.sent b0 b1 b2).okFrame = s.sentAnswered b0 b1 b2 :=
  State.okFrame_of_none _ hf

/-- No response after an exchange that did not complete (R112, R266). -/
theorem State.okFrame_busFailed : s.busFailed.okFrame = s.busFailed :=
  State.okFrame_of_fault _ (by simp)

/-- No cache is written after an exchange that did not complete (R266). -/
theorem State.andThen_busFailed (f : State → State) : s.busFailed.andThen f = s.busFailed :=
  State.andThen_of_fault _ f (by simp)

/-- A frame and a slot's gain are separate elements. -/
theorem State.setGain_sent (slot : Slot) (g : Gain) (b0 b1 b2 : Byte) :
    (s.sent b0 b1 b2).setGain slot g = (s.setGain slot g).sent b0 b1 b2 := by
  cases slot <;> rfl

/-- A frame and a slot's `en` are separate elements. -/
theorem State.setEn_sent (slot : Slot) (v : Bool) (b0 b1 b2 : Byte) :
    (s.sent b0 b1 b2).setEn slot v = (s.setEn slot v).sent b0 b1 b2 := by
  cases slot <;> rfl

/-- `SETOUT` on a slot of valid identity, whose exchange completes (R152). -/
theorem State.setOut_of_ok {slot : Slot} (code : U16) (au : Bool) (hcodes : s.DefaultCodes)
    (hv : validId (s.chanId slot) = true) (hb : s.busOk = true) :
    s.setOut slot code au = s.sent ((if au then 0x18 else 0x00) ||| s.chanId slot) (hiByte (s.dataOf code))
      (loByte (s.dataOf code)) := by
  unfold State.DefaultCodes at hcodes
  rw [State.setOut, hcodes, State.write_chanId_of_ok code hv (BitVec.isLt _) hb]
  cases au <;> rfl

/-- `SETOUT` whose exchange does not complete (R263). -/
theorem State.setOut_of_not_ok (slot : Slot) (code : U16) (au : Bool) (hf : s.fault = .none) (hb : s.busOk = false) :
    s.setOut slot code au = s.busFailed :=
  State.write_of_not_ok _ _ _ _ hf hb

/-- The body of CH_GAIN: the frame of the mode, then the slot's own factor (R154). -/
theorem State.gainBody_of_ok (slot : Slot) (m : GainMode) (hf : s.fault = .none) (hcodes : s.DefaultCodes)
    (hb : s.busOk = true) :
    s.gainBody slot m = (s.setGain slot (gainFactor m (s.chanId slot))).sent 0x02
      (hiByte (gainData CmdCode.dac8562 m)) (loByte (gainData CmdCode.dac8562 m)) := by
  unfold State.DefaultCodes at hcodes
  rw [State.gainBody, hcodes, State.write_config_of_ok _ (BitVec.isLt _) (BitVec.isLt _) hb,
    State.andThen_of_none (s.sent _ _ _) _ hf, State.sent_chanId, State.setGain_sent]
  rfl

/-- The body of CH_GAIN whose exchange does not complete: the factor stays (R263). -/
theorem State.gainBody_of_not_ok (slot : Slot) (m : GainMode) (hf : s.fault = .none) (hb : s.busOk = false) :
    s.gainBody slot m = s.busFailed := by
  rw [State.gainBody, State.write_of_not_ok _ _ _ _ hf hb, State.andThen_busFailed]

/-- The body of CH_EN and CH_DIS: the slot's POWER frame, then the flag (R89, R156, R157). -/
theorem State.powerBody_of_ok {slot : Slot} (pd : BitVec 2) (en : Bool) (hf : s.fault = .none)
    (hcodes : s.DefaultCodes) (hv : validId (s.chanId slot) = true) (hb : s.busOk = true) :
    s.powerBody slot pd en = (s.setEn slot en).sent 0x20 0x00
      (BitVec.ofNat 8 (pd.toNat * 16) ||| (if s.chanId slot = 0 then 0x01 else 0x02)) := by
  unfold State.DefaultCodes at hcodes
  obtain ⟨hhi, hlo⟩ := powerData_bytes pd hv
  rw [State.powerBody, State.writeConfig, hcodes, State.write_config_of_ok _ (BitVec.isLt _) (BitVec.isLt _) hb,
    State.andThen_of_none (s.sent _ _ _) _ hf, State.setEn_sent, hhi, hlo]
  rfl

/-- The body of CH_EN and CH_DIS whose exchange does not complete: the flag stays (R263). -/
theorem State.powerBody_of_not_ok (slot : Slot) (pd : BitVec 2) (en : Bool) (hf : s.fault = .none)
    (hb : s.busOk = false) : s.powerBody slot pd en = s.busFailed := by
  rw [State.powerBody, State.writeConfig, State.write_of_not_ok _ _ _ _ hf hb, State.andThen_busFailed]

end Sends

/-! ### The channel control words -/

/-- Settles O27. The identity is checked before a word's own body runs, so no operand is looked at. -/
theorem invalidIdentityClearsEnabled : Obligations.InvalidIdentityClearsEnabled := by
  unfold Obligations.InvalidIdentityClearsEnabled
  intro i sel s hf hsel
  obtain ⟨body, hexec⟩ := exec_eq_channelWord hsel
  rw [hexec]
  constructor
  · rintro rfl h0 h1
    exact s.channelWord_of_invalid 0 .a body hf rfl (validId_eq_false h0 h1)
  · rintro rfl h0 h1
    exact s.channelWord_of_invalid 1 .b body hf rfl (validId_eq_false h0 h1)

/-- Settles O28. The word is `SETOUT` and the response. -/
theorem chSetoutResult : Obligations.ChSetoutResult := by
  unfold Obligations.ChSetoutResult
  intro sel slot code au s hf hcodes hsel
  have hexec : exec (.chSetout sel code au) s = .next (s.setOut slot code au).okFrame :=
    s.channelWord_of_selects sel slot _ hf hsel
  rw [hexec]
  constructor
  · intro hb
    rw [State.setOut_of_ok code au hcodes hsel.2 hb, State.okFrame_sent _ _ _ hf]
  · intro hb
    rw [State.setOut_of_not_ok slot code au hf hb, State.okFrame_busFailed]

/-- Settles O29. The operand's finiteness is checked first, then the denominator; then the word is `SETOUT` of
the code, as CH_SETOUT is. -/
theorem chSetvResult : Obligations.ChSetvResult := by
  unfold Obligations.ChSetvResult
  intro sel slot au w s hf hcodes hsel
  have hexec : exec (.chSetv sel au w) s = .next (s.withReal w fun q s => s.withCode slot q fun code s =>
      (s.setOut slot code au).okFrame) := s.channelWord_of_selects sel slot _ hf hsel
  rw [hexec]
  constructor
  · intro hw
    rw [s.withReal_of_none w _ hw, s.raise_of_none _ hf]
  · intro q hw
    rw [s.withReal_of_some w q _ hw]
    refine ⟨fun hd => ?_, fun hd hb => ?_, fun hd hb => ?_⟩
    · rw [s.withCode_of_zero slot q _ hd, s.raise_of_none _ hf]
    · rw [s.withCode_of_ne_zero slot q _ hd, State.setOut_of_ok _ au hcodes hsel.2 hb, State.okFrame_sent _ _ _ hf]
    · rw [s.withCode_of_ne_zero slot q _ hd, State.setOut_of_not_ok slot _ au hf hb, State.okFrame_busFailed]

/-- CH_GAIN with a mode of R107 is its body and the response. -/
theorem exec_chGain_of_some {sel : Byte} {slot : Slot} {mode : U16} {m : GainMode} {s : State} (hf : s.fault = .none)
    (hsel : s.Selects sel slot) (hm : gainModeOf mode = some m) :
    exec (.chGain sel mode) s = .next (s.gainBody slot m).okFrame :=
  (s.channelWord_of_selects sel slot _ hf hsel).trans (by simp only [hm])

/-- CH_GAIN with another mode is ignored (R106). -/
theorem exec_chGain_of_none {sel : Byte} {slot : Slot} {mode : U16} {s : State} (hf : s.fault = .none)
    (hsel : s.Selects sel slot) (hm : gainModeOf mode = none) :
    exec (.chGain sel mode) s = .next (s.answered .ign .none) :=
  (s.channelWord_of_selects sel slot _ hf hsel).trans (by simp only [hm, State.ignore_eq])

/-- Settles O30. The mode is read first; the factor is written only after a completed exchange. -/
theorem chGainResult : Obligations.ChGainResult := by
  unfold Obligations.ChGainResult
  intro sel slot mode s hf hcodes hsel
  refine ⟨fun hmode => exec_chGain_of_none hf hsel (gainModeOf_of_lt hmode), fun hmode hb => ?_, fun hmode hb => ?_⟩
  · obtain ⟨m, hm, hdata, hfactor⟩ := gainModeOf_of_le hmode
    rw [exec_chGain_of_some hf hsel hm, State.gainBody_of_ok slot m hf hcodes hb,
      State.okFrame_sent _ _ _ (by rwa [State.setGain_fault]), hdata, hfactor, hiByte_eq_zero_of_le hmode]
  · obtain ⟨m, hm, -, -⟩ := gainModeOf_of_le hmode
    rw [exec_chGain_of_some hf hsel hm, State.gainBody_of_not_ok slot m hf hb, State.okFrame_busFailed]

/-- Settles O31. The word is one data write of 0, which no offset moves, and the response. -/
theorem chUpdateResult : Obligations.ChUpdateResult := by
  unfold Obligations.ChUpdateResult
  intro sel slot s hf hcodes hsel
  have hexec : exec (.chUpdate sel) s =
      .next (s.write 0 (s.chanId slot).toNat s.cfg.cmd.upd.toNat false).okFrame :=
    s.channelWord_of_selects sel slot _ hf hsel
  rw [hexec]
  constructor
  · intro hb
    unfold State.DefaultCodes at hcodes
    rw [State.write_chanId_of_ok 0 hsel.2 (BitVec.isLt _) hb, State.okFrame_sent _ _ _ hf, hcodes,
      s.dataOf_zero]
    rfl
  · intro hb
    rw [State.write_of_not_ok _ _ _ _ hf hb, State.okFrame_busFailed]

/-- Settles O32. CH_EN and CH_DIS are one body, with power mode 0 and with `PD_MODE`. -/
theorem chEnAndChDisResult : Obligations.ChEnAndChDisResult := by
  unfold Obligations.ChEnAndChDisResult
  intro sel slot s hf hcodes hsel
  have hen : exec (.chEn sel) s = .next (s.powerBody slot 0 true).okFrame :=
    s.channelWord_of_selects sel slot _ hf hsel
  have hdis : exec (.chDis sel) s = .next (s.powerBody slot s.pdMode false).okFrame :=
    s.channelWord_of_selects sel slot _ hf hsel
  rw [hen, hdis]
  constructor
  · intro hb
    have hsends : ∀ pd v, (s.powerBody slot pd v).okFrame = (s.setEn slot v).sentAnswered 0x20 0x00
        (BitVec.ofNat 8 (pd.toNat * 16) ||| (if s.chanId slot = 0 then 0x01 else 0x02)) := fun pd v => by
      rw [State.powerBody_of_ok pd v hf hcodes hsel.2 hb, State.okFrame_sent _ _ _ (by rwa [State.setEn_fault])]
    rw [hsends, hsends]
    exact ⟨by simp, rfl⟩
  · intro hb
    rw [State.powerBody_of_not_ok slot 0 true hf hb, State.powerBody_of_not_ok slot s.pdMode false hf hb,
      State.okFrame_busFailed]
    exact ⟨rfl, rfl⟩

/-- Settles O33. Neither word reaches a write: their bodies answer or fault. -/
theorem chConversionsResult : Obligations.ChConversionsResult := by
  unfold Obligations.ChConversionsResult
  intro sel slot s hf hsel
  have hv2d : ∀ w, exec (.chV2d sel w) s = .next (s.withReal w fun q s => s.withCode slot q fun code s =>
      s.ok (.u16 code)) := fun w => s.channelWord_of_selects sel slot _ hf hsel
  refine ⟨fun code => s.channelWord_of_selects sel slot _ hf hsel, fun w hw => ?_, fun w q hw => ⟨fun hd => ?_,
    fun hd => ?_⟩⟩
  · rw [hv2d, s.withReal_of_none w _ hw, s.raise_of_none _ hf]
  · rw [hv2d, s.withReal_of_some w q _ hw, s.withCode_of_zero slot q _ hd, s.raise_of_none _ hf]
  · rw [hv2d, s.withReal_of_some w q _ hw, s.withCode_of_ne_zero slot q _ hd, State.ok_eq]

end Sys2Proof.Machine
end

section
/-! The device words of spec/42_device.md: the caches and the lines (R183, R185, R186, R188 to R190, R193), the words of
one frame (R191, R192, R194, R195), and the sequences of DEV_INTREF, DEV_INIT and DEV_DEFAULT (R181, R182, R184). -/

namespace Sys2Proof.Machine

/-! ### The words that send no frame -/

/-- Settles O45. The operand's finiteness is checked first; the clamp has three cases. -/
theorem devVrefResult : Obligations.DevVrefResult := by
  unfold Obligations.DevVrefResult
  intro w s hf
  have hexec : exec (.devVref w) s =
      .next (s.withReal w fun q s => State.ok { s with vref := clampRat q 0 5 } .none) := s.control_of_none _ hf
  rw [hexec]
  constructor
  · intro hw
    rw [s.withReal_of_none w _ hw, s.raise_of_none _ hf]
  · intro q hw
    rw [s.withReal_of_some w q _ hw, clampRat_eq q 0 5 (by norm_num), State.ok_eq]

/-- DEV_LDAC_PULSE is an event if the line is attached (R187, R189). -/
theorem exec_devLdacPulse {s : State} (hf : s.fault = .none) :
    exec .devLdacPulse s = .next ((if s.syncAtt then s.pulse .ldac else s).answered .ok .none) :=
  s.control_of_none _ hf

/-- DEV_CLR_PULSE is an event if the line is attached (R187, R193). -/
theorem exec_devClrPulse {s : State} (hf : s.fault = .none) :
    exec .devClrPulse s = .next ((if s.clrAtt then s.pulse .clr else s).answered .ok .none) :=
  s.control_of_none _ hf

/-- Settles O46. Only the two pulse words look at the state, each at the flag of its own line. -/
theorem controlLinesResult : Obligations.ControlLinesResult := by
  unfold Obligations.ControlLinesResult
  intro s hf
  rw [exec_devLdacPulse hf, exec_devClrPulse hf]
  refine ⟨s.control_of_none _ hf, s.control_of_none _ hf, s.control_of_none _ hf, s.control_of_none _ hf,
    fun h => ?_, fun h => ?_, fun h => ?_, fun h => ?_⟩
  · rw [if_pos h]; rfl
  · rw [if_neg (Bool.eq_false_iff.mp h)]
  · rw [if_pos h]; rfl
  · rw [if_neg (Bool.eq_false_iff.mp h)]

/-! ### The words of one frame -/

section OneFrame

variable {s : State}

/-- A configuration frame of R89 to R92: the configuration address is 0. -/
theorem State.writeConfig_of_ok (data : U16) (cmd : BitVec 3) (hcodes : s.DefaultCodes) (hb : s.busOk = true) :
    s.writeConfig data cmd = s.sent (BitVec.ofNat 8 (cmd.toNat * 8)) (hiByte data) (loByte data) := by
  unfold State.DefaultCodes at hcodes
  rw [State.writeConfig, hcodes, State.write_config_of_ok _ (BitVec.isLt _) (BitVec.isLt _) hb]
  simp [CmdCode.dac8562]

/-- A configuration frame whose exchange does not complete (R263). -/
theorem State.writeConfig_of_not_ok (data : U16) (cmd : BitVec 3) (hf : s.fault = .none) (hb : s.busOk = false) :
    s.writeConfig data cmd = s.busFailed :=
  State.write_of_not_ok _ _ _ _ hf hb

/-- The body of DEV_SYNCMODE: the frame of the mode, then its cache (R91, R188). -/
theorem State.syncModeBody_of_ok (mode : BitVec 2) (hf : s.fault = .none) (hcodes : s.DefaultCodes)
    (hb : s.busOk = true) :
    s.syncModeBody mode = State.sent { s with ldacMode := mode } 0x30 0x00 (mode.setWidth 8) := by
  obtain ⟨hhi, hlo⟩ : hiByte (ldacData s.cfg.cmd mode) = 0x00 ∧
      loByte (ldacData s.cfg.cmd mode) = mode.setWidth 8 := by
    unfold State.DefaultCodes at hcodes
    rw [hcodes, ldacData_dac8562]
    revert mode; decide
  rw [State.syncModeBody, State.writeConfig_of_ok _ _ hcodes hb, State.andThen_of_none (s.sent _ _ _) _ hf, hhi, hlo,
    hcodes]
  rfl

/-- The body of DEV_SYNCMODE whose exchange does not complete: the cache stays (R263). -/
theorem State.syncModeBody_of_not_ok (mode : BitVec 2) (hf : s.fault = .none) (hb : s.busOk = false) :
    s.syncModeBody mode = s.busFailed := by
  rw [State.syncModeBody, State.writeConfig_of_not_ok _ _ hf hb, State.andThen_busFailed]

/-- A frame's address and command saturate at 7 (R134, R135). -/
theorem State.write_saturated (s : State) (data : U16) (addr cmd : Nat) (cfgWrite : Bool) :
    s.write data addr cmd cfgWrite = s.write data (min addr 7) (min cmd 7) cfgWrite := by
  simp [State.write_eq, buildFrame, packAddress, packCommand]

/-- The first byte of a frame from its saturated command and address. -/
theorem ofNat_cmd_or_addr {addr cmd : Nat} (ha : addr < 8) (hc : cmd < 8) :
    BitVec.ofNat 8 (cmd * 8) ||| BitVec.ofNat 8 addr = BitVec.ofNat 8 (cmd * 8 + addr) := by
  have hbits : ∀ a < 8, ∀ c < 8, BitVec.ofNat 8 (c * 8) ||| BitVec.ofNat 8 a = BitVec.ofNat 8 (c * 8 + a) := by
    decide
  exact hbits addr ha cmd hc

end OneFrame

/-- Settles O47. The mode saturates before it is sent or stored. -/
theorem modeWordsResult : Obligations.ModeWordsResult := by
  unfold Obligations.ModeWordsResult
  intro m s hf
  have hexec : exec (.devSyncmode m) s = .next (s.syncModeBody (modeOf m)).okFrame := s.control_of_none _ hf
  have hdata : (modeOf m).setWidth 8 = BitVec.ofNat 8 (min m.toNat 3) :=
    BitVec.eq_of_toNat_eq (by simp [modeOf])
  rw [hexec]
  refine ⟨fun hcodes hb => ?_, fun hb => ?_, s.control_of_none _ hf⟩
  · rw [State.syncModeBody_of_ok _ hf hcodes hb, hdata]
    exact congrArg Host.Outcome.next (State.okFrame_sent _ _ _ hf)
  · rw [State.syncModeBody_of_not_ok _ hf hb, State.okFrame_busFailed]

/-- Settles O48. The resets are configuration frames of fixed data; DEV_WRITE saturates its command and address. -/
theorem resetsRawWriteAndLastResult : Obligations.ResetsRawWriteAndLastResult := by
  unfold Obligations.ResetsRawWriteAndLastResult
  intro s hf
  have hinput : exec .devRstInput s = .next (s.writeConfig s.cfg.cmd.dataRstInput s.cfg.cmd.reset).okFrame :=
    s.control_of_none _ hf
  have hfactory : exec .devRstFactory s = .next (s.writeConfig s.cfg.cmd.dataRstFactory s.cfg.cmd.reset).okFrame :=
    s.control_of_none _ hf
  have hwrite : ∀ data addr cmd cfg, exec (.devWrite data addr cmd cfg) s =
      .next (s.write data addr.toNat cmd.toNat cfg).okFrame := fun _ _ _ _ => s.control_of_none _ hf
  rw [hinput, hfactory]
  refine ⟨s.control_of_none _ hf, fun hb => ⟨?_, ?_, fun data addr cmd cfg => ?_⟩, fun hb => ⟨fun hcodes => ?_,
    fun data addr cmd cfg => ?_⟩⟩
  · rw [State.writeConfig_of_not_ok _ _ hf hb, State.okFrame_busFailed]
  · rw [State.writeConfig_of_not_ok _ _ hf hb, State.okFrame_busFailed]
  · rw [hwrite, State.write_of_not_ok _ _ _ _ hf hb, State.okFrame_busFailed]
  · rw [State.writeConfig_of_ok _ _ hcodes hb, State.writeConfig_of_ok _ _ hcodes hb, State.okFrame_sent _ _ _ hf,
      State.okFrame_sent _ _ _ hf, hcodes]
    exact ⟨rfl, rfl⟩
  · have ha : min addr.toNat 7 < 8 := by omega
    have hc : min cmd.toNat 7 < 8 := by omega
    rw [hwrite, State.write_saturated, State.write_of_ok data cfg ha hc hb, State.okFrame_sent _ _ _ hf,
      ofNat_cmd_or_addr ha hc]
    cases cfg
    case false => rfl
    case true => simp

end Sys2Proof.Machine
end

section
/-! The sequences of spec/42_device.md: frames sent one after another with every exchange completing, the parts of a
sequence that a slot of invalid identity skips (R151), and DEV_INTREF, DEV_INIT and DEV_DEFAULT (R181, R182, R184). -/

namespace Sys2Proof.Machine

/-! ### Frames sent one after another -/

section SentAll

variable (s : State) (l : List Event)

/-- Before any frame nothing has happened. -/
theorem State.sentAll_nil : s.sentAll [] = s := by simp [State.sentAll]

/-- One more frame. -/
theorem State.sent_sentAll (b0 b1 b2 : Byte) : (s.sentAll l).sent b0 b1 b2 = s.sentAll (l ++ [.frame b0 b1 b2]) := by
  simp [State.sent, State.sentAll, lastFrameOf, frameValue, List.append_assoc, Nat.add_assoc]

/-- No frame changes an identity. -/
@[simp] theorem State.sentAll_chanId (slot : Slot) : (s.sentAll l).chanId slot = s.chanId slot := by
  cases slot <;> rfl

/-- The frames sent and a slot's cache are separate elements. -/
theorem State.setChannel_sentAll (slot : Slot) (c : Channel) :
    (s.sentAll l).setChannel slot c = (s.setChannel slot c).sentAll l := by
  cases slot <;> rfl

/-- No frame changes a slot's cache. -/
@[simp] theorem State.sentAll_channel (slot : Slot) : (s.sentAll l).channel slot = s.channel slot := by
  cases slot <;> rfl

/-- The response after a sequence returns its last frame (R112). -/
theorem State.okFrame_sentAll (hf : s.fault = .none) (hl : l ≠ []) :
    (s.sentAll l).okFrame = (s.sentAll l).answered .ok (.u24 (lastFrameOf l)) := by
  have hlast : (s.sentAll l).lastFrame = lastFrameOf l := if_neg hl
  rw [State.okFrame_of_none (s.sentAll l) hf, hlast]

end SentAll

/-! ### The draws of a sequence -/

/-- The draws to come do not depend on what a step writes. -/
theorem State.busOkFor_congr {s t : State} (hb : t.bus = s.bus) (hn : t.busDrawn = s.busDrawn) {n : Nat}
    (h : s.busOkFor n) : t.busOkFor n := by
  induction n generalizing s t with
  | zero => trivial
  | succ n ih => exact ⟨(s.busOk_congr t hb hn).trans h.1, ih (by simp [hb]) (by simp [hn]) h.2⟩

/-- The exchange of the next frame completes while the draws promised are not used up. -/
theorem State.busOk_sentAll {s : State} {l : List Event} {n : Nat} (h : s.busOkFor n) (hl : l.length < n) :
    (s.sentAll l).busOk = true := by
  induction l generalizing s n with
  | nil =>
    obtain ⟨m, rfl⟩ := Nat.exists_eq_succ_of_ne_zero (Nat.ne_of_gt hl)
    exact h.1
  | cons e l ih =>
    obtain ⟨m, rfl⟩ := Nat.exists_eq_succ_of_ne_zero (Nat.ne_of_gt (Nat.zero_lt_of_lt hl))
    rw [← ih h.2 (Nat.lt_of_succ_lt_succ hl)]
    exact State.busOk_congr _ _ (by simp [State.sentAll]) (by simp [State.sentAll]; omega)

/-- A state in which `n` frames can be sent, and are those of the default codes. -/
structure State.CanSend (s : State) (n : Nat) : Prop where
  fault : s.fault = .none
  codes : s.DefaultCodes
  bus : s.busOkFor n

namespace State.CanSend

variable {s t : State} {l : List Event} {n : Nat}

/-- Whether frames can be sent depends on the parameters, the fault state and the draws. -/
theorem congr (h : s.CanSend n) (hcfg : t.cfg = s.cfg) (hfault : t.fault = s.fault) (hbus : t.bus = s.bus)
    (hdrawn : t.busDrawn = s.busDrawn) : t.CanSend n where
  fault := hfault.trans h.fault
  codes := (congrArg Config.cmd hcfg).trans h.codes
  bus := State.busOkFor_congr hbus hdrawn h.bus

/-- A slot's cache does not matter. -/
theorem setChannel (h : s.CanSend n) (slot : Slot) (c : Channel) : (s.setChannel slot c).CanSend n :=
  h.congr (by simp) (by simp) (by simp) (by simp)

/-- The next part of a sequence is done. -/
theorem andThen_sentAll (h : s.CanSend n) (f : State → State) : (s.sentAll l).andThen f = f (s.sentAll l) :=
  State.andThen_of_none (s.sentAll l) f h.fault

end State.CanSend

/-! ### The parts of a sequence -/

/-- The frame of one slot, which it sends if its identity is valid (R151). -/
def idFrames (id : Byte) (frameOf : Byte → Event) : List Event := if validId id then [frameOf id] else []

/-- The frames of both slots are those of A, then those of B. -/
theorem State.perSlot_eq (s : State) (frameOf : Byte → Event) :
    s.perSlot frameOf = idFrames (s.chanId .a) frameOf ++ idFrames (s.chanId .b) frameOf := rfl

/-- The GAIN frame of DEV_INTREF (R184). -/
def intrefGainFrame (e : Bool) : Event := .frame 0x02 0x00 (if e then 0x00 else 0x03)

/-- The state after DEV_INTREF but for its frames (R184). -/
def State.afterIntref (s : State) (e : Bool) : State :=
  { s with
    intrefEn := e
    chA := s.chA.afterIntref s.cfg.chanIdA e
    chB := s.chB.afterIntref s.cfg.chanIdB e }

/-- The frames of DEV_INTREF (R184). -/
def State.intrefFrames (s : State) (e : Bool) : List Event :=
  .frame 0x38 0x00 (if e then 0x01 else 0x00) :: s.perSlot fun _ => intrefGainFrame e

/-- The state after the first half of the default sequence but for its frames (R182). -/
def State.poweredDown (s : State) : State := ((s.setPdMode 1).setEn .a false).setEn .b false

section Parts

variable {s : State} {l : List Event} {n : Nat}

/-- A power frame is sent with these bytes (R89). -/
theorem powerFrame_eq (pd : BitVec 2) {id : Byte} (h : validId id = true) :
    powerFrame pd id = .frame 0x20 0x00 (BitVec.ofNat 8 (pd.toNat * 16) ||| (if id = 0 then 0x01 else 0x02)) := by
  rcases validId_iff.mp h with rfl | rfl <;> revert pd <;> decide

/-- The power part of the default sequence: `en` is cleared whether or not the slot sends its frame (R151, R182). -/
theorem State.CanSend.onSlot_powerBody (h : s.CanSend n) {slot : Slot} {id : Byte} (hid : s.chanId slot = id)
    (hl : (l ++ idFrames id (powerFrame s.pdMode)).length ≤ n) :
    ((s.sentAll l).onSlot slot fun s => s.powerBody slot s.pdMode false) =
      (s.setEn slot false).sentAll (l ++ idFrames id (powerFrame s.pdMode)) := by
  have hen : (s.sentAll l).setEn slot false = (s.setEn slot false).sentAll l := by
    simp [State.setEn, State.setChannel_sentAll]
  rcases (s.sentAll l).onSlot_cases slot fun s => s.powerBody slot s.pdMode false with ⟨hv, hpart⟩ | ⟨hv, hpart⟩
  all_goals rw [State.sentAll_chanId, hid] at hv
  · rw [idFrames, if_pos hv] at hl ⊢
    rw [hpart, State.powerBody_of_ok (s := s.sentAll l) _ false h.fault h.codes (by simpa [hid] using hv)
      (State.busOk_sentAll h.bus (by simpa using hl)), hen, State.sent_sentAll, State.sentAll_chanId, hid,
      powerFrame_eq _ hv]
    rfl
  · rw [hpart, hen, idFrames, if_neg (Bool.eq_false_iff.mp hv), List.append_nil]

/-- The first half of the default sequence: power-down mode 1, then both slots disabled (R182). -/
theorem State.CanSend.powerDown (h : s.CanSend n) (hl : (s.perSlot (powerFrame 1)).length ≤ n) :
    (((s.setPdMode 1).andThen fun s => s.onSlot .a fun s => s.powerBody .a s.pdMode false).andThen
      fun s => s.onSlot .b fun s => s.powerBody .b s.pdMode false) =
      s.poweredDown.sentAll (s.perSlot (powerFrame 1)) := by
  rw [State.perSlot_eq] at hl ⊢
  have hpd : (s.setPdMode 1).CanSend n := h.congr rfl rfl rfl rfl
  have hoff : ((s.setPdMode 1).setEn .a false).CanSend n := hpd.setChannel .a _
  rw [← (s.setPdMode 1).sentAll_nil, hpd.andThen_sentAll, hpd.onSlot_powerBody (id := s.chanId .a) rfl,
    hoff.andThen_sentAll, hoff.onSlot_powerBody (id := s.chanId .b) rfl]
  · rfl
  · exact hl
  · exact le_trans (by simp) hl

/-- The gain part of DEV_INTREF (R151, R184). -/
theorem State.CanSend.onSlot_gainBody (h : s.CanSend n) {slot : Slot} {id : Byte} (hid : s.chanId slot = id) (e : Bool)
    (hl : (l ++ idFrames id fun _ => intrefGainFrame e).length ≤ n) :
    ((s.sentAll l).onSlot slot fun s => s.gainBody slot (if e then .intVref else .reset)) =
      (s.setChannel slot ((s.channel slot).afterIntref id e)).sentAll
        (l ++ idFrames id fun _ => intrefGainFrame e) := by
  rcases (s.sentAll l).onSlot_cases slot fun s => s.gainBody slot (if e then .intVref else .reset) with
    ⟨hv, hpart⟩ | ⟨hv, hpart⟩
  all_goals rw [State.sentAll_chanId, hid] at hv
  · rw [idFrames, if_pos hv] at hl ⊢
    rw [hpart, State.gainBody_of_ok (s := s.sentAll l) _ _ h.fault h.codes
      (State.busOk_sentAll h.bus (by simpa using hl)), State.setGain, State.setChannel_sentAll, State.sent_sentAll,
      State.sentAll_channel, Channel.afterIntref, if_pos hv]
    cases e <;> rfl
  · rw [hpart, State.setEn, State.setChannel_sentAll, State.sentAll_channel, idFrames, Channel.afterIntref,
      if_neg (Bool.eq_false_iff.mp hv), if_neg (Bool.eq_false_iff.mp hv), List.append_nil]

/-- The reference frame of DEV_INTREF (R92, R184). -/
theorem State.CanSend.writeConfig_intref (h : s.CanSend n) (e : Bool) (hl : l.length < n) :
    (s.sentAll l).writeConfig
      (if e then (s.sentAll l).cfg.cmd.dataRefOn else (s.sentAll l).cfg.cmd.dataRefOff) (s.sentAll l).cfg.cmd.intref =
      s.sentAll (l ++ [.frame 0x38 0x00 (if e then 0x01 else 0x00)]) := by
  have hcodes : (s.sentAll l).cfg.cmd = CmdCode.dac8562 := h.codes
  rw [State.writeConfig_of_ok _ _ hcodes (State.busOk_sentAll h.bus hl), State.sent_sentAll, hcodes]
  cases e <;> rfl

/-- The body of DEV_INTREF: the reference frame and its cache, then the gain of A and of B (R184). -/
theorem State.CanSend.intrefBody (h : s.CanSend n) (e : Bool) (hl : (l ++ s.intrefFrames e).length ≤ n) :
    (s.sentAll l).intrefBody e = (s.afterIntref e).sentAll (l ++ s.intrefFrames e) := by
  rw [State.intrefFrames, State.perSlot_eq] at hl ⊢
  simp only [List.length_append, List.length_cons] at hl
  have hcache : ∀ m, (s.sentAll m).setIntrefEn e = (s.setIntrefEn e).sentAll m := fun _ => rfl
  have hrefSet : (s.setIntrefEn e).CanSend n := h.congr rfl rfl rfl rfl
  have hgainSet := hrefSet.setChannel .a (((s.setIntrefEn e).channel .a).afterIntref (s.chanId .a) e)
  rw [State.intrefBody, h.writeConfig_intref e (by omega), h.andThen_sentAll, hcache, hrefSet.andThen_sentAll,
    hrefSet.onSlot_gainBody (id := s.chanId .a) rfl e (by simp; omega), hgainSet.andThen_sentAll,
    hgainSet.onSlot_gainBody (id := s.chanId .b) rfl e (by simp; omega)]
  simp only [List.append_assoc, List.singleton_append]
  rfl

/-- The second half of the default sequence: synchronous-update mode 3, then the reference on (R182). -/
theorem State.CanSend.syncMode_intref (h : s.CanSend n)
    (hl : (l ++ .frame 0x30 0x00 0x03 :: s.intrefFrames true).length ≤ n) :
    (((s.sentAll l).syncModeBody 3).andThen fun s => s.intrefBody true) =
      (State.afterIntref { s with ldacMode := 3 } true).sentAll
        (l ++ .frame 0x30 0x00 0x03 :: s.intrefFrames true) := by
  have hsync : (s.sentAll l).syncModeBody 3 =
      State.sentAll { s with ldacMode := 3 } (l ++ [.frame 0x30 0x00 0x03]) := by
    rw [State.syncModeBody_of_ok (s := s.sentAll l) 3 h.fault h.codes
      (State.busOk_sentAll h.bus (lt_of_lt_of_le (by simp) hl))]
    exact State.sent_sentAll { s with ldacMode := 3 } l _ _ _
  have hcached : State.CanSend { s with ldacMode := 3 } n := h.congr rfl rfl rfl rfl
  rw [List.append_cons] at hl ⊢
  rw [hsync, hcached.andThen_sentAll, hcached.intrefBody true hl]
  rfl

end Parts

/-! ### DEV_INTREF, DEV_INIT and DEV_DEFAULT -/

/-- Settles O44. The word is its body and the response, which returns the last frame. -/
theorem devIntrefResult : Obligations.DevIntrefResult := by
  unfold Obligations.DevIntrefResult
  intro v s hf hcodes e frames hb
  have hexec : exec (.devIntref v) s = .next (s.intrefBody e).okFrame := s.control_of_none _ hf
  have hsend : s.CanSend (s.intrefFrames e).length := ⟨hf, hcodes, hb⟩
  have hbody : s.intrefBody e = (s.afterIntref e).sentAll (s.intrefFrames e) := by
    simpa only [State.sentAll_nil, List.nil_append] using hsend.intrefBody (l := []) e le_rfl
  rw [hexec, hbody, State.okFrame_sentAll (s.afterIntref e) (s.intrefFrames e) hf (List.cons_ne_nil _ _)]
  rfl

/-- The frames of the default sequence (R182). -/
def State.defaultFrames (s : State) : List Event :=
  s.perSlot (powerFrame 1) ++ [.frame 0x30 0x00 0x03, .frame 0x38 0x00 0x01] ++ s.perSlot fun _ => .frame 0x02 0x00 0x00

/-- The state after the default sequence but for its frames (R182). -/
def State.afterDefault (s : State) : State :=
  { s with
    pdMode := 1
    ldacMode := 3
    intrefEn := true
    chA := ⟨if validId s.cfg.chanIdA then .two else s.chA.gain, false⟩
    chB := ⟨if validId s.cfg.chanIdB then .two else s.chB.gain, false⟩ }

/-- A slot whose `en` is cleared before the reference is turned on (R182, R184). -/
theorem Channel.afterIntref_of_disabled (c : Channel) (id : Byte) :
    { c with en := false }.afterIntref id true = ⟨if validId id then .two else c.gain, false⟩ := by
  cases hv : validId id <;> simp [Channel.afterIntref, hv]

/-- The frames of the default sequence are those of its halves. -/
theorem State.defaultFrames_eq (s : State) :
    s.defaultFrames = s.perSlot (powerFrame 1) ++ .frame 0x30 0x00 0x03 :: s.intrefFrames true := by
  simp [State.defaultFrames, State.intrefFrames, intrefGainFrame]

/-- The body of the default sequence is its two halves (R182). -/
theorem State.CanSend.defaultBody {s : State} (h : s.CanSend s.defaultFrames.length) :
    s.defaultBody = s.afterDefault.sentAll s.defaultFrames := by
  rw [s.defaultFrames_eq] at h ⊢
  have hdown : s.poweredDown.CanSend _ := h.congr rfl rfl rfl rfl
  have hcaches : State.afterIntref { s.poweredDown with ldacMode := 3 } true = s.afterDefault := by
    rw [State.afterDefault, ← Channel.afterIntref_of_disabled, ← Channel.afterIntref_of_disabled]
    rfl
  rw [State.defaultBody, h.powerDown (by simp), hdown.andThen_sentAll, ← hcaches]
  exact hdown.syncMode_intref le_rfl

/-- Settles O43. Both words are the default sequence and the response. -/
theorem defaultSequenceResult : Obligations.DefaultSequenceResult := by
  unfold Obligations.DefaultSequenceResult
  intro s hf hcodes frames hb i hi
  have hexec : exec i s = .next s.defaultBody.okFrame := by
    rcases hi with rfl | rfl
    · exact s.control_of_none _ hf
    · exact s.control_of_none _ hf
  have hsend : s.CanSend s.defaultFrames.length := ⟨hf, hcodes, hb⟩
  have hne : s.defaultFrames ≠ [] := by simp [State.defaultFrames]
  rw [hexec, hsend.defaultBody, State.okFrame_sentAll s.afterDefault s.defaultFrames hf hne]
  rfl

end Sys2Proof.Machine
end

section
/-! Pulses in the log (spec/42_device.md R187): every operation but a pulse leaves the pulses logged as they are, so the
two pulse words alone can add one, each under the flag of its own line. -/

namespace Sys2Proof.Machine

/-- A pulse, not a frame. -/
def Event.isPulse : Event → Bool
  | .frame _ _ _ => false
  | .pulse _ => true

/-- The pulses logged so far. -/
def State.pulses (s : State) : List Event := s.evlog.filter Event.isPulse

/-- The log decides the pulses. -/
theorem State.pulses_congr {s t : State} (h : t.evlog = s.evlog) : t.pulses = s.pulses :=
  congrArg (List.filter Event.isPulse) h

/-- The pulses of a longer log. -/
theorem State.pulses_of_append {s t : State} {l : List Event} (h : t.evlog = s.evlog ++ l) :
    t.pulses = s.pulses ++ l.filter Event.isPulse := by
  rw [State.pulses, h, List.filter_append]
  rfl

/-! ### The shared operations add no pulse -/

section Keeps

variable (s : State)

@[simp] theorem State.respond_pulses (status : Status) (value : RespValue) :
    (s.respond status value).pulses = s.pulses := rfl

@[simp] theorem State.setEn_pulses (slot : Slot) (v : Bool) : (s.setEn slot v).pulses = s.pulses :=
  State.pulses_congr (s.setEn_evlog slot v)

@[simp] theorem State.setGain_pulses (slot : Slot) (g : Gain) : (s.setGain slot g).pulses = s.pulses :=
  State.pulses_congr (s.setGain_evlog slot g)

@[simp] theorem State.raise_pulses (code : FaultCode) : (s.raise code).pulses = s.pulses :=
  State.pulses_congr (s.raise_evlog code)

@[simp] theorem State.setOsc_pulses (o : Nat) (osc : Osc) : (s.setOsc o osc).pulses = s.pulses := rfl

/-- An exchange logs a frame or nothing. -/
@[simp] theorem State.exchange_pulses (b0 b1 b2 : Byte) : (s.exchange b0 b1 b2).pulses = s.pulses := by
  unfold State.exchange
  split
  · simp [State.pulses, Event.isPulse]
  · exact State.raise_pulses _ _

@[simp] theorem State.write_pulses (data : U16) (addr cmd : Nat) (cfgWrite : Bool) :
    (s.write data addr cmd cfgWrite).pulses = s.pulses := s.exchange_pulses _ _ _

@[simp] theorem State.writeConfig_pulses (data : U16) (cmd : BitVec 3) : (s.writeConfig data cmd).pulses = s.pulses :=
  s.write_pulses _ _ _ _

@[simp] theorem State.setOut_pulses (slot : Slot) (code : U16) (au : Bool) :
    (s.setOut slot code au).pulses = s.pulses := s.write_pulses _ _ _ _

/-! ### What is made of parts that add no pulse adds none -/

theorem State.andThen_pulses {f : State → State} (hf : ∀ u : State, (f u).pulses = u.pulses) :
    (s.andThen f).pulses = s.pulses :=
  s.andThen_induction f (P := fun t => t.pulses = s.pulses) rfl fun _ => hf s

@[simp] theorem State.okFrame_pulses : s.okFrame.pulses = s.pulses :=
  s.andThen_pulses fun u => u.respond_pulses _ _

theorem State.withReal_pulses (w : U32) {f : Rat → State → State} (hf : ∀ q, (f q s).pulses = s.pulses) :
    (s.withReal w f).pulses = s.pulses := by
  unfold State.withReal
  split
  · exact s.raise_pulses _
  · exact hf _

theorem State.withCode_pulses (slot : Slot) (volts : Rat) {f : U16 → State → State}
    (hf : ∀ code, (f code s).pulses = s.pulses) : (s.withCode slot volts f).pulses = s.pulses := by
  unfold State.withCode
  split
  · exact s.raise_pulses _
  · exact hf _

theorem State.onSlot_pulses (slot : Slot) {f : State → State} (hf : (f s).pulses = s.pulses) :
    (s.onSlot slot f).pulses = s.pulses := by
  rcases s.onSlot_cases slot f with ⟨-, hpart⟩ | ⟨-, hpart⟩
  · rw [hpart, hf]
  · rw [hpart, s.setEn_pulses]

@[simp] theorem State.gainBody_pulses (slot : Slot) (m : GainMode) : (s.gainBody slot m).pulses = s.pulses :=
  (State.andThen_pulses _ fun u => u.setGain_pulses _ _).trans (s.write_pulses _ _ _ _)

@[simp] theorem State.powerBody_pulses (slot : Slot) (pd : BitVec 2) (en : Bool) :
    (s.powerBody slot pd en).pulses = s.pulses :=
  (State.andThen_pulses _ fun u => u.setEn_pulses _ _).trans (s.writeConfig_pulses _ _)

@[simp] theorem State.syncModeBody_pulses (m : BitVec 2) : (s.syncModeBody m).pulses = s.pulses :=
  (State.andThen_pulses (f := fun u => { u with ldacMode := m }) _ fun _ => rfl).trans (s.writeConfig_pulses _ _)

@[simp] theorem State.intrefBody_pulses (e : Bool) : (s.intrefBody e).pulses = s.pulses := by
  unfold State.intrefBody
  rw [State.andThen_pulses _ fun u => u.onSlot_pulses .b (u.gainBody_pulses .b _),
    State.andThen_pulses _ fun u => u.onSlot_pulses .a (u.gainBody_pulses .a _),
    State.andThen_pulses (f := fun u => u.setIntrefEn e) _ fun _ => rfl, State.writeConfig_pulses]

@[simp] theorem State.defaultBody_pulses : s.defaultBody.pulses = s.pulses := by
  unfold State.defaultBody
  rw [State.andThen_pulses _ fun u => u.intrefBody_pulses true, State.andThen_pulses _ fun u => u.syncModeBody_pulses 3,
    State.andThen_pulses _ fun u => u.onSlot_pulses .b (u.powerBody_pulses .b _ false),
    State.andThen_pulses _ fun u => u.onSlot_pulses .a (u.powerBody_pulses .a _ false)]
  rfl

@[simp] theorem State.forward_pulses (o : Osc) (code : U16) : (s.forward o code).pulses = s.pulses := by
  refine s.onSlot_pulses _ ?_
  split
  · exact s.withCode_pulses _ _ fun code => s.setOut_pulses _ code _
  · exact s.setOut_pulses _ _ _

/-- One oscillator's part of a tick adds no pulse (R239). -/
@[simp] theorem State.tickOsc_pulses (o : Nat) : (s.tickOsc o).pulses = s.pulses := by
  unfold State.tickOsc
  split
  case h_1 => rfl
  case h_2 osc _ =>
    split
    · split
      · rfl
      · rw [State.forward_pulses, State.setOsc_pulses]
    · rfl

/-- A tick adds no pulse: none of its parts does. -/
@[simp] theorem State.tickAll_pulses : s.tickAll.pulses = s.pulses :=
  List.foldlRecOn (List.range s.oscs.length) _ (motive := fun u : State => u.pulses = s.pulses) rfl
    fun u hu o _ => (u.andThen_pulses fun v => v.tickOsc_pulses o).trans hu

end Keeps

/-! ### The shapes of an instruction -/

section Shapes

variable {s t : State}

theorem State.control_pulses {f : State → State} (h : s.control f = .next t)
    (hf : ∀ u : State, (f u).pulses = u.pulses) : t.pulses = s.pulses := by
  cases h
  exact s.andThen_pulses hf

theorem State.channelWord_pulses {sel : Byte} {f : Slot → State → State}
    (h : s.channelWord sel f = .next t) (hf : ∀ slot (u : State), (f slot u).pulses = u.pulses) :
    t.pulses = s.pulses := by
  refine State.control_pulses h fun u => ?_
  split
  · rfl
  · split
    · exact hf _ u
    · exact u.setEn_pulses _ _

theorem State.oscWord_pulses {sel : Byte} {f : Osc → State → State}
    (h : s.oscWord sel f = .next t) (hf : ∀ osc (u : State), (f osc u).pulses = u.pulses) : t.pulses = s.pulses := by
  refine State.control_pulses h fun u => ?_
  split
  · rfl
  · exact hf _ u

theorem State.withTick_pulses {f : State → State} (h : s.withTick f = .next t)
    (hf : ∀ u : State, (f u).pulses = u.pulses) : t.pulses = s.pulses := by
  rw [State.withTick_eq] at h
  split at h
  · cases h
  · cases h
    exact s.andThen_pulses fun u => (hf _).trans u.tickAll_pulses

/-- A pulse word looks at the flag of its line first. -/
theorem State.control_pulse_cases {attached : State → Bool} {line : Line}
    (h : (s.control fun u => (if attached u then u.pulse line else u).ok .none) = .next t) :
    t.pulses = s.pulses ∨ (attached s = true ∧ t.pulses = s.pulses ++ [.pulse line]) := by
  cases h
  refine s.andThen_induction _ (P := fun t => t.pulses = s.pulses ∨ _ ∧ t.pulses = _) (.inl rfl) fun _ => ?_
  split
  case isTrue hatt => exact .inr ⟨hatt, List.filter_append _ _⟩
  case isFalse => exact .inl rfl

end Shapes

/-- The channel words add no pulse: a body sends, converts, or answers. -/
theorem exec_pulses_of_channelWord {i : Instr} {sel : Byte} {s t : State} (hsel : channelSelOf i = some sel)
    (h : exec i s = .next t) : t.pulses = s.pulses := by
  cases i <;> cases hsel
  case chSetout => exact State.channelWord_pulses h fun _ _ => by simp
  case chSetv =>
    exact State.channelWord_pulses h fun _ u => u.withReal_pulses _ fun _ => u.withCode_pulses _ _ fun _ => by simp
  case chGain =>
    refine State.channelWord_pulses h fun slot u => ?_
    split
    · rfl
    · simp
  case chUpdate => exact State.channelWord_pulses h fun _ _ => by simp
  case chEn => exact State.channelWord_pulses h fun _ _ => by simp
  case chDis => exact State.channelWord_pulses h fun _ _ => by simp
  case chD2v => exact State.channelWord_pulses h fun _ _ => rfl
  case chV2d =>
    exact State.channelWord_pulses h fun _ u => u.withReal_pulses _ fun _ => u.withCode_pulses _ _ fun _ => rfl

/-- The oscillator words add no pulse: they send nothing. -/
theorem exec_pulses_of_oscWord {i : Instr} {sel : Byte} {s t : State} (hsel : oscSelOf i = some sel)
    (h : exec i s = .next t) : t.pulses = s.pulses := by
  cases i <;> cases hsel
  case oscFreq | oscAmp | oscPhase | oscDc =>
    exact State.oscWord_pulses h fun _ u => u.withReal_pulses _ fun _ => rfl
  case oscKind | oscTwr | oscTrd | oscBind =>
    refine State.oscWord_pulses h fun osc u => ?_
    split
    · rfl
    · rfl
  case oscEn | oscDis | oscVmode | oscIdx => exact State.oscWord_pulses h fun _ _ => rfl

/-- Every instruction leaves the pulses as they are, but for the pulse of an attached line (R187, R189, R193). -/
theorem exec_pulses_cases {i : Instr} {s t : State} (h : exec i s = .next t) :
    t.pulses = s.pulses ∨ (s.syncAtt = true ∧ t.pulses = s.pulses ++ [.pulse .ldac]) ∨
      (s.clrAtt = true ∧ t.pulses = s.pulses ++ [.pulse .clr]) := by
  cases i
  case devLdacPulse => exact (State.control_pulse_cases h).imp_right .inl
  case devClrPulse => exact (State.control_pulse_cases h).imp_right .inr
  all_goals left
  case chSetout | chSetv | chGain | chUpdate | chEn | chDis | chD2v | chV2d => exact exec_pulses_of_channelWord rfl h
  case oscEn | oscDis | oscFreq | oscAmp | oscPhase | oscDc | oscKind | oscTwr | oscTrd | oscBind | oscVmode | oscIdx =>
    exact exec_pulses_of_oscWord rfl h
  case tick =>
    change execTick s = .next t at h
    exact State.withTick_pulses h fun u => u.andThen_pulses fun v => v.respond_pulses .ok _
  case devInit | devDefault | devIntref | devSyncmode | devRstInput | devRstFactory | devWrite =>
    exact State.control_pulses h fun _ => by simp
  case devVref => exact State.control_pulses h fun u => u.withReal_pulses _ fun _ => rfl
  case frClear | frLoad | frSetoff | packData | packAddr | packCmd | unpackData | unpackAddr | unpackCmd | frRead |
      devAttSync | devDetSync | devAttClr | devDetClr | devPdmode | devLast =>
    exact State.control_pulses h fun _ => rfl
  all_goals exact State.control_pulses h fun u => u.exchange_pulses _ _ _

/-- Settles O23. The pulses among the events appended are what the pulses logged grow by: nothing, or the pulse of an
attached line. -/
theorem absentLinesAreNeverPulsed : Obligations.AbsentLinesAreNeverPulsed := by
  unfold Obligations.AbsentLinesAreNeverPulsed
  intro i s t l h hlog
  have hmem : ∀ {line}, .pulse line ∈ l → .pulse line ∈ l.filter Event.isPulse :=
    fun hl => List.mem_filter.mpr ⟨hl, rfl⟩
  have hcases := exec_pulses_cases h
  simp only [State.pulses_of_append hlog, List.append_right_eq_self, List.append_cancel_left_eq] at hcases
  rcases hcases with hnone | ⟨hatt, hldac⟩ | ⟨hatt, hclr⟩
  · rw [hnone] at hmem
    exact ⟨fun hl => absurd (hmem hl) (by simp), fun hl => absurd (hmem hl) (by simp)⟩
  · rw [hldac] at hmem
    exact ⟨fun _ => hatt, fun hl => absurd (hmem hl) (by simp)⟩
  · rw [hclr] at hmem
    exact ⟨fun hl => absurd (hmem hl) (by simp), fun _ => hatt⟩

end Sys2Proof.Machine
end

section
/-! The oscillator words of spec/43_oscillator.md (R220 to R237): what each leaves of the oscillator it selects, with
the tables of R226. -/

namespace Sys2Proof.Machine

/-! ### Operands -/

/-- A phase differs from its reduction by a multiple of the table size (R224). -/
theorem sub_modRat (q : Rat) (n : Nat) : q - modRat q n = ⌊q / n⌋ * n := by
  unfold modRat; ring

/-- The kinds are numbered 0 to 2 (R107, R230). -/
theorem kindOf_of_lt {k : U16} (h : 2 < k.toNat) : kindOf k = none := by
  have h0 : k ≠ 0 := by rintro rfl; simp at h
  have h1 : k ≠ 1 := by rintro rfl; simp at h
  have h2 : k ≠ 2 := by rintro rfl; simp at h
  rw [kindOf, if_neg h0, if_neg h1, if_neg h2]

/-- Only 0 and 1 name a slot to bind to (R235). -/
theorem slotOperand_of_lt {b : U16} (h : 1 < b.toNat) : slotOperand b = none := by
  have h0 : b ≠ 0 := by rintro rfl; simp at h
  have h1 : b ≠ 1 := by rintro rfl; simp at h
  rw [slotOperand, if_neg h0, if_neg h1]

/-- Regeneration puts in the table of R226 for the oscillator's own parameters. -/
theorem Osc.regen_eq_tableFor (fullScale : Nat) (o : Osc) :
    o.regen fullScale = { o with table := o.tableFor fullScale o.kind o.amp o.dc } := by
  obtain ⟨_, _, _, _, kind, _, _, _, _, _⟩ := o
  cases kind
  case sine => rfl
  case saw => rfl
  case arb => rfl

/-- `OSC[o].T[j]` of an oscillator that exists (R60). -/
theorem State.entry_of_getElem? {s : State} {i : Nat} {o : Osc} (h : s.oscs[i]? = some o) (j : Nat) :
    s.entry i j = memRead o.table j := by
  rw [State.entry, h]
  rfl

/-! ### The words -/

section Words

variable {s : State} {sel : Byte} {o : Osc}

/-- A word with a real operand, on an oscillator that exists: the operand's finiteness is checked first (R219, R261). -/
theorem State.oscWord_withReal_of_none {w : U32} {body : Osc → Rat → State → State} (hf : s.fault = .none)
    (hsel : s.SelectsOsc sel o) (hw : f32 w = none) :
    (s.oscWord sel fun osc s => s.withReal w (body osc)) = .next { s with fault := .nonfinite } := by
  rw [s.oscWord_of_selects sel o _ hf hsel, s.withReal_of_none w _ hw, s.raise_of_none _ hf]

/-- A word with a finite real operand, on an oscillator that exists. -/
theorem State.oscWord_withReal_of_some {w : U32} {q : Rat} {body : Osc → Rat → State → State} (hf : s.fault = .none)
    (hsel : s.SelectsOsc sel o) (hw : f32 w = some q) :
    (s.oscWord sel fun osc s => s.withReal w (body osc)) = .next (body o q s) := by
  rw [s.oscWord_of_selects sel o _ hf hsel, s.withReal_of_some w q _ hw]

/-- OSC_KIND with a kind of R107 regenerates the table, an ARB table staying (R230). -/
theorem exec_oscKind_of_some {k : U16} {kind : Kind} (hf : s.fault = .none) (hsel : s.SelectsOsc sel o)
    (hk : kindOf k = some kind) : exec (.oscKind sel k) s = .next ((s.setOsc sel.toNat
      { o with kind := kind, table := o.tableFor s.cfg.fullScale kind o.amp o.dc }).answered .ok .none) :=
  (s.oscWord_of_selects sel o _ hf hsel).trans (by simp only [hk, Osc.regen_eq_tableFor]; rfl)

/-- OSC_KIND with another kind is ignored (R106). -/
theorem exec_oscKind_of_none {k : U16} (hf : s.fault = .none) (hsel : s.SelectsOsc sel o) (hk : kindOf k = none) :
    exec (.oscKind sel k) s = .next (s.answered .ign .none) :=
  (s.oscWord_of_selects sel o _ hf hsel).trans (by simp only [hk, State.ignore_eq])

/-- OSC_BIND to a slot of R107 (R235). -/
theorem exec_oscBind_of_some {b : U16} {slot : Slot} (hf : s.fault = .none) (hsel : s.SelectsOsc sel o)
    (hb : slotOperand b = some slot) : exec (.oscBind sel b) s =
      .next ((s.setOsc sel.toNat { o with bind := slot }).answered .ok .none) :=
  (s.oscWord_of_selects sel o _ hf hsel).trans (by simp only [hb, State.ok_eq])

/-- OSC_BIND to another slot is ignored (R106). -/
theorem exec_oscBind_of_none {b : U16} (hf : s.fault = .none) (hsel : s.SelectsOsc sel o)
    (hb : slotOperand b = none) : exec (.oscBind sel b) s = .next (s.answered .ign .none) :=
  (s.oscWord_of_selects sel o _ hf hsel).trans (by simp only [hb, State.ignore_eq])

/-- OSC_TRD reads one entry (R234). -/
theorem exec_oscTrd_of_some {i : U32} {v : U16} (hf : s.fault = .none) (hsel : s.SelectsOsc sel o)
    (hv : memRead o.table i.toNat = some v) : exec (.oscTrd sel i) s = .next (s.answered .ok (.u16 v)) :=
  (s.oscWord_of_selects sel o _ hf hsel).trans (by simp only [hv, State.ok_eq])

/-- OSC_TRD of an entry that does not exist is ignored (R234). -/
theorem exec_oscTrd_of_none {i : U32} (hf : s.fault = .none) (hsel : s.SelectsOsc sel o)
    (hv : memRead o.table i.toNat = none) : exec (.oscTrd sel i) s = .next (s.answered .ign .none) :=
  (s.oscWord_of_selects sel o _ hf hsel).trans (by simp only [hv, State.ignore_eq])

end Words

/-- Settles O49. Each word is its body on the oscillator selected. -/
theorem oscFlagWordsResult : Obligations.OscFlagWordsResult := by
  unfold Obligations.OscFlagWordsResult
  intro sel o s hf hsel
  exact ⟨s.oscWord_of_selects sel o _ hf hsel, s.oscWord_of_selects sel o _ hf hsel,
    fun _ => s.oscWord_of_selects sel o _ hf hsel, s.oscWord_of_selects sel o _ hf hsel⟩

/-- Settles O50. The phase is `modRat` of the operand, which R224 describes by its range and its multiple of `N`. -/
theorem oscFreqAndPhaseResult : Obligations.OscFreqAndPhaseResult := by
  unfold Obligations.OscFreqAndPhaseResult
  intro sel o w s hf hsel
  refine ⟨fun hw => ⟨State.oscWord_withReal_of_none hf hsel hw, State.oscWord_withReal_of_none hf hsel hw⟩,
    fun q hw => ⟨State.oscWord_withReal_of_some hf hsel hw, fun hsize => ?_⟩⟩
  obtain ⟨hlow, hhigh⟩ := modRat_mem q o.size hsize
  exact ⟨modRat q o.size, ⌊q / o.size⌋, hlow, hhigh, sub_modRat q o.size, State.oscWord_withReal_of_some hf hsel hw⟩

/-- Settles O51. A clamp has three cases, and regeneration is the table of R226 for the parameters just written. -/
theorem oscTableParametersResult : Obligations.OscTableParametersResult := by
  unfold Obligations.OscTableParametersResult
  intro sel o s hf hsel
  refine ⟨fun w hw => ⟨State.oscWord_withReal_of_none hf hsel hw, State.oscWord_withReal_of_none hf hsel hw⟩,
    fun w q amp hw hamp => ?_, fun w q dc hw hdc => ?_, fun k kind hk => ?_,
    fun k hk => exec_oscKind_of_none hf hsel (kindOf_of_lt hk)⟩
  · rw [← clampRat_eq q 0 1 (by norm_num)] at hamp
    refine (State.oscWord_withReal_of_some hf hsel hw).trans ?_
    rw [Osc.regen_eq_tableFor, hamp]
    rfl
  · rw [← clampRat_eq q (-1) 1 (by norm_num)] at hdc
    refine (State.oscWord_withReal_of_some hf hsel hw).trans ?_
    rw [Osc.regen_eq_tableFor, hdc]
    rfl
  · simp only [List.mem_cons, Prod.mk.injEq, List.not_mem_nil, or_false] at hk
    rcases hk with ⟨rfl, rfl⟩ | ⟨rfl, rfl⟩ | ⟨rfl, rfl⟩
    · exact exec_oscKind_of_some hf hsel rfl
    · exact exec_oscKind_of_some hf hsel rfl
    · exact exec_oscKind_of_some hf hsel rfl

/-- Settles O52. An entry exists just when its index is below the table size. -/
theorem oscTableAndBindResult : Obligations.OscTableAndBindResult := by
  unfold Obligations.OscTableAndBindResult
  intro sel o s hf hsel
  have hwrite : ∀ code i, exec (.oscTwr sel code i) s = .next (if i.toNat < o.size then
      (s.setOsc sel.toNat { o with table := memWrite o.table i.toNat code }).answered .ok .none
      else s.answered .ign .none) := fun _ _ => s.oscWord_of_selects sel o _ hf hsel
  refine ⟨fun code i => ⟨fun hi => ?_, fun hi => ?_⟩, fun b => ⟨?_, ?_, fun hb => ?_⟩⟩
  · have hread : memRead o.table i.toNat = none := List.getElem?_eq_none hi
    exact ⟨by rw [hwrite, if_neg (Nat.not_lt.mpr hi)], exec_oscTrd_of_none hf hsel hread⟩
  · have hread : memRead o.table i.toNat = some o.table[i.toNat] := List.getElem?_eq_getElem hi
    exact ⟨by rw [hwrite, if_pos hi]; rfl, _, (State.entry_of_getElem? hsel _).trans hread,
      exec_oscTrd_of_some hf hsel hread⟩
  · rintro rfl
    exact exec_oscBind_of_some hf hsel rfl
  · rintro rfl
    exact exec_oscBind_of_some hf hsel rfl
  · exact exec_oscBind_of_none hf hsel (slotOperand_of_lt hb)

end Sys2Proof.Machine
end

section
/-! The sampler of spec/43_oscillator.md R240: the blend of two neighbouring entries, which rounding keeps between
them. -/

namespace Sys2Proof.Machine

/-- `round_ha` does not pass an integer from above (R12). -/
theorem le_roundHa {n : Int} {q : Rat} (h : (n : Rat) ≤ q) : n ≤ roundHa q := by
  have hclose := (abs_le.1 (roundHa_close q)).1
  have hlt : (n : Rat) < roundHa q + 1 := by linarith
  exact Int.lt_add_one_iff.1 (by exact_mod_cast hlt)

/-- `round_ha` does not pass an integer from below (R12). -/
theorem roundHa_le {n : Int} {q : Rat} (h : q ≤ n) : roundHa q ≤ n := by
  have hclose := (abs_le.1 (roundHa_close q)).2
  have hlt : (roundHa q : Rat) < n + 1 := by linarith
  exact Int.lt_add_one_iff.1 (by exact_mod_cast hlt)

/-- Two codes blended by a fraction (R240), before rounding. -/
def blend (a b : U16) (fr : Rat) : Rat := a.toNat + fr * ((b.toNat : Rat) - a.toNat)

/-- At fraction 0 the blend is the first code. -/
theorem blend_zero (a b : U16) : blend a b 0 = (a.toNat : Int) := by simp [blend]

/-- The rounded blend lies between the codes: the blend is a convex combination of them. -/
theorem roundHa_blend_mem (a b : U16) {fr : Rat} (h0 : 0 ≤ fr) (h1 : fr ≤ 1) :
    ((min a.toNat b.toNat : Nat) : Int) ≤ roundHa (blend a b fr) ∧
      roundHa (blend a b fr) ≤ (max a.toNat b.toNat : Nat) := by
  have hconvex : blend a b fr = (1 - fr) • (a.toNat : Rat) + fr • (b.toNat : Rat) := by
    simp only [blend, smul_eq_mul]; ring
  have hweight : 0 ≤ 1 - fr := sub_nonneg.mpr h1
  rw [hconvex]
  constructor
  · exact le_roundHa (by push_cast; exact Convex.min_le_combo _ _ hweight h0 (sub_add_cancel 1 fr))
  · exact roundHa_le (by push_cast; exact Convex.combo_le_max _ _ hweight h0 (sub_add_cancel 1 fr))

/-- The code of the rounded blend is the rounded blend: it does not leave the range of codes. -/
theorem toNat_ofNat_roundHa_blend (a b : U16) {fr : Rat} (h0 : 0 ≤ fr) (h1 : fr ≤ 1) :
    ((BitVec.ofNat 16 (roundHa (blend a b fr)).toNat).toNat : Int) = roundHa (blend a b fr) := by
  obtain ⟨hlow, hhigh⟩ := roundHa_blend_mem a b h0 h1
  have ha := a.isLt
  have hb := b.isLt
  rw [BitVec.toNat_ofNat, Nat.mod_eq_of_lt (by omega), Int.toNat_of_nonneg (by omega)]

/-- The index of the entry at or below the read position (R240). -/
def Osc.readIndex (o : Osc) : Nat := (⌊o.pos⌋ % (o.size : Int)).toNat

/-- The read position's integral part, reduced into the table. -/
theorem Osc.readIndex_cast {o : Osc} (h : 1 ≤ o.size) : (o.readIndex : Int) = ⌊o.pos⌋ % (o.size : Int) :=
  Int.toNat_of_nonneg (Int.emod_nonneg _ (by omega))

/-- The entry at or below the read position exists. -/
theorem Osc.readIndex_lt {o : Osc} (h : 1 ≤ o.size) : o.readIndex < o.size := by
  have hlt := Int.emod_lt_of_pos ⌊o.pos⌋ (b := o.size) (by omega)
  rw [← Osc.readIndex_cast h] at hlt
  exact_mod_cast hlt

/-- The sample is the rounded blend of the entries beside the read position. -/
theorem Osc.sample_of_entries {o : Osc} {a b : U16} (ha : o.table[o.readIndex]? = some a)
    (hb : o.table[(o.readIndex + 1) % o.size]? = some b) :
    o.sample = some (BitVec.ofNat 16 (roundHa (blend a b (Int.fract o.pos))).toNat) := by
  unfold Osc.readIndex at ha hb
  simp only [Osc.sample, memRead, ha, hb]
  rfl

/-- With an integral phase the read position is integral. -/
theorem Osc.fract_pos_of_integral {o : Osc} (h : ∃ n : Int, o.ph = n) : Int.fract o.pos = 0 := by
  obtain ⟨n, hn⟩ := h
  rw [Osc.pos, hn, Int.fract_add_intCast, Int.fract_natCast]

/-- Settles O53. The entries beside the read position exist, and the rounded blend of two codes lies between them. -/
theorem sampleLiesBetweenItsNeighbours : Obligations.SampleLiesBetweenItsNeighbours := by
  unfold Obligations.SampleLiesBetweenItsNeighbours
  intro o hsize _
  have hfr0 : 0 ≤ Int.fract o.pos := Int.fract_nonneg _
  have hfr1 : Int.fract o.pos ≤ 1 := (Int.fract_lt_one _).le
  obtain ⟨a, ha⟩ : ∃ a, o.table[o.readIndex]? = some a := ⟨_, List.getElem?_eq_getElem (Osc.readIndex_lt hsize)⟩
  obtain ⟨b, hb⟩ : ∃ b, o.table[(o.readIndex + 1) % o.size]? = some b :=
    ⟨_, List.getElem?_eq_getElem (Nat.mod_lt _ hsize)⟩
  have hcode := toNat_ofNat_roundHa_blend a b hfr0 hfr1
  obtain ⟨hlow, hhigh⟩ := roundHa_blend_mem a b hfr0 hfr1
  refine ⟨o.readIndex, a, b, _, Osc.readIndex_lt hsize, ?_, ha, hb, Osc.sample_of_entries ha hb, ?_, ?_, hcode, ?_⟩
  · rw [Osc.readIndex_cast hsize]
    exact Int.emod_eq_zero_of_dvd Int.dvd_self_sub_emod
  · rw [← hcode] at hlow; exact_mod_cast hlow
  · rw [← hcode] at hhigh; exact_mod_cast hhigh
  · intro hint
    rw [Osc.fract_pos_of_integral hint, blend_zero, roundHa_intCast, Int.toNat_natCast, BitVec.ofNat_toNat,
      BitVec.setWidth_eq]

end Sys2Proof.Machine
end

section
/-! The sample tick of spec/43_oscillator.md (R238 to R242): the oscillators are served one after another, so what holds
of the oscillators served so far and of those still to come is carried from part to part. -/

namespace Sys2Proof.Machine

/-! ### The induction over the parts of a tick -/

/-- What holds before a tick and is carried over by each oscillator's part, the oscillators being served from the first
to the last, holds after it. `P done rest t`: the oscillators `done` have been served, `rest` are to come, and the state
is `t`. -/
theorem State.tickAll_induction {s : State} {P : List Osc → List Osc → State → Prop} (hstart : P [] s.oscs s)
    (hpart : ∀ done o rest t, s.oscs = done ++ o :: rest → P done (o :: rest) t →
      P (done ++ [o]) rest (t.andThen fun t => t.tickOsc done.length)) : P s.oscs [] s.tickAll := by
  have hparts : ∀ (rest done : List Osc) (t : State), s.oscs = done ++ rest → P done rest t →
      P s.oscs [] ((List.range' done.length rest.length).foldl (fun t o => t.andThen fun t => t.tickOsc o) t) := by
    intro rest
    induction rest with
    | nil =>
      intro done t hoscs ht
      rw [hoscs, List.append_nil]
      exact ht
    | cons o rest ih =>
      intro done t hoscs ht
      have hnext := ih (done ++ [o]) _ (by simpa using hoscs) (hpart done o rest t hoscs ht)
      simpa [List.range'_succ] using hnext
  rw [State.tickAll, List.range_eq_range']
  exact hparts s.oscs [] s rfl hstart

/-- A part that is done although it could have been skipped: no fault came before it. -/
theorem State.fault_of_andThen {s : State} {f : State → State} (h : (s.andThen f).fault = .none) :
    s.fault = .none := by
  by_contra hf
  rw [s.andThen_of_fault f hf] at h
  exact hf h

/-! ### One oscillator's part -/

section Part

variable {s : State} {done rest : List Osc} {o : Osc} {code : U16}

/-- An oscillator that is not Running keeps its record. -/
theorem Osc.ticked_of_stopped (sps : Nat) (h : o.run = false) : o.ticked sps = o := if_neg (by simp [h])

/-- A Running oscillator advances (R241). -/
theorem Osc.ticked_of_running (sps : Nat) (h : o.run = true) : o.ticked sps = o.advance sps := if_pos h

/-- The part of an oscillator that is not Running does nothing (R239). -/
theorem State.tickOsc_of_stopped (hoscs : s.oscs = done ++ o :: rest) (h : o.run = false) :
    s.tickOsc done.length = s := by
  simp [State.tickOsc, hoscs, h]

/-- The part of a Running oscillator: its record advances and its sample is forwarded (R239). -/
theorem State.tickOsc_of_running (hoscs : s.oscs = done ++ o :: rest) (h : o.run = true)
    (hcode : o.sample = some code) :
    s.tickOsc done.length = State.forward { s with oscs := done ++ o.ticked s.cfg.sps :: rest } o code := by
  simp [State.tickOsc, State.setOsc, hoscs, h, hcode, Osc.ticked_of_running]

/-- A conversion does not divide by zero: a Running oscillator in voltage mode on a slot of valid identity has a
reference to divide by (R242, R262). -/
def State.Converts (s : State) (o : Osc) : Prop :=
  o.run = true → o.vmode = true → validId (s.chanId o.bind) = true → 0 < s.vref

/-- A gain factor is 1 or 2 (R32). -/
theorem Gain.factor_pos (g : Gain) : (0 : Rat) < g.factor := by cases g <;> norm_num [Gain.factor]

/-- A code turned into volts by the reference and back by the reference and the gain is divided by the gain (R242). -/
theorem volts_div_eq {c vref fs g : Rat} (hc : 0 ≤ c) (hvref : 0 < vref) (hfs : 0 < fs) :
    |c * vref / fs| * fs / (vref * g) = c / g := by
  rw [abs_of_nonneg (by positivity), div_mul_cancel₀ _ hfs.ne', mul_comm vref, mul_div_mul_right _ _ hvref.ne']

/-- FORWARD to a slot of invalid identity clears its `en` (R151, R242). -/
theorem State.forward_of_invalid (code : U16) (hv : validId (s.chanId o.bind) = false) :
    s.forward o code = s.setEn o.bind false := by
  simp [State.forward, State.onSlot, hv]

/-- FORWARD to a slot of valid identity is a write-and-update, of the sample divided by the gain in voltage mode
(R242). -/
theorem State.forward_of_valid (code : U16) (hfs : 1 ≤ s.cfg.fullScale) (hv : validId (s.chanId o.bind) = true)
    (hvref : o.vmode = true → 0 < s.vref) :
    s.forward o code = s.setOut o.bind (s.forwarded o code) true := by
  rw [State.forward, State.onSlot, if_pos hv, State.forwarded]
  split
  case isTrue hmode =>
    have hvref := hvref hmode
    have hfs : (0 : Rat) < s.cfg.fullScale := by exact_mod_cast hfs
    rw [s.withCode_of_ne_zero _ _ _ (mul_pos hvref (Gain.factor_pos _)).ne', State.codeOf,
      volts_div_eq (Nat.cast_nonneg _) hvref hfs]
  case isFalse => rfl

end Part

/-! ### The oscillators served so far -/

section Served

variable {s : State} {done rest : List Osc} {o : Osc} {n : Nat}

/-- The state after these parts of a tick but for their frames (R239, R242). -/
def State.advanced (s : State) (done rest : List Osc) : State :=
  { s with
    oscs := done.map (Osc.ticked s.cfg.sps) ++ rest
    chA := { s.chA with en := s.chA.en && !s.clearedBy done .a }
    chB := { s.chB with en := s.chB.en && !s.clearedBy done .b } }

/-- The parts of a tick are their effects on the records, and their frames. -/
theorem State.served_eq (s : State) (done rest : List Osc) :
    s.served done rest = (s.advanced done rest).sentAll (s.framesOf done) := rfl

/-- The parts served advance their own records alone. -/
theorem State.served_oscs (s : State) (done rest : List Osc) :
    (s.served done rest).oscs = done.map (Osc.ticked s.cfg.sps) ++ rest := rfl

/-- No part of a tick changes an identity. -/
@[simp] theorem State.served_chanId (slot : Slot) : (s.served done rest).chanId slot = s.chanId slot := by
  cases slot <;> rfl

/-- No part of a tick changes a gain. -/
theorem State.served_forwarded (code : U16) : (s.served done rest).forwarded o code = s.forwarded o code := by
  have hgain : ∀ slot, ((s.served done rest).channel slot).gain = (s.channel slot).gain := by
    intro slot; cases slot <;> rfl
  rw [State.forwarded, hgain]
  rfl

/-- Frames can be sent whatever was served before. -/
theorem State.CanSend.advanced (h : s.CanSend n) (done rest : List Osc) : (s.advanced done rest).CanSend n :=
  h.congr rfl rfl rfl rfl

/-- The exchange of the next frame completes while the draws promised are not used up. -/
theorem State.CanSend.busOk_served (h : s.CanSend n) (hn : (s.framesOf done).length < n) :
    (s.served done rest).busOk = true := by
  rw [State.served_eq]
  exact State.busOk_sentAll (h.advanced done rest).bus hn

/-- A slot is cleared by one of the oscillators served before, or by the one served last. -/
theorem State.clearedBy_concat (s : State) (done : List Osc) (o : Osc) (slot : Slot) :
    s.clearedBy (done ++ [o]) slot =
      (s.clearedBy done slot || (o.run && o.bind == slot && !validId (s.chanId slot))) := by
  simp [State.clearedBy, Bool.and_or_distrib_right]

/-- What an oscillator that is not Running adds to a tick: nothing (R239). -/
theorem State.served_stopped (s : State) (h : o.run = false) :
    s.served (done ++ [o]) rest = s.served done (o :: rest) := by
  have hframe : s.framesOf [o] = [] := by simp [State.framesOf, State.tickFrame, h]
  simp [State.served, State.framesOf_append, hframe, State.clearedBy_concat, h, Osc.ticked_of_stopped]

/-- What a Running oscillator on a slot of invalid identity adds to a tick: its advance, and `en` cleared (R242). -/
theorem State.served_invalid (s : State) (h : o.run = true) (hv : validId (s.chanId o.bind) = false) :
    s.served (done ++ [o]) rest = (s.served done (o.ticked s.cfg.sps :: rest)).setEn o.bind false := by
  have hframe : s.framesOf [o] = [] := by simp [State.framesOf, State.tickFrame, hv]
  cases hslot : o.bind
  all_goals
    rw [hslot] at hv
    simp [State.served, State.setEn, State.setChannel, State.channel, State.framesOf_append, hframe,
      State.clearedBy_concat, hv, hslot, h, show (Slot.a == Slot.b) = false from rfl,
      show (Slot.b == Slot.a) = false from rfl]

/-- What a Running oscillator on a slot of valid identity adds to a tick: its advance, and its frame (R239). -/
theorem State.served_valid (s : State) {b0 b1 b2 : Byte} (hv : validId (s.chanId o.bind) = true)
    (hframe : s.tickFrame o = some (.frame b0 b1 b2)) :
    s.served (done ++ [o]) rest = (s.served done (o.ticked s.cfg.sps :: rest)).sent b0 b1 b2 := by
  have hframes : s.framesOf [o] = [.frame b0 b1 b2] := by simp [State.framesOf, hframe]
  have hkept : ∀ slot, s.clearedBy (done ++ [o]) slot = s.clearedBy done slot := by
    intro slot
    rw [State.clearedBy_concat]
    by_cases hslot : o.bind = slot
    · simp [← hslot, hv]
    · simp [beq_false_of_ne hslot]
  have hadvanced : s.advanced (done ++ [o]) rest = s.advanced done (o.ticked s.cfg.sps :: rest) := by
    simp [State.advanced, hkept]
  rw [State.served_eq, State.served_eq, State.sent_sentAll, State.framesOf_append, hframes, hadvanced]

/-- The frame of a Running oscillator on a slot of valid identity (R239, R242). -/
theorem State.tickFrame_of_running {code : U16} (h : o.run = true) (hv : validId (s.chanId o.bind) = true)
    (hcode : o.sample = some code) : s.tickFrame o = some (.frame (0x18 ||| s.chanId o.bind)
      (hiByte (s.dataOf (s.forwarded o code))) (loByte (s.dataOf (s.forwarded o code)))) := by
  simp [State.tickFrame, h, hv, hcode]

/-- The draws a Running oscillator's frame is one of. -/
theorem State.framesOf_concat_length {e : Event} (s : State) (done : List Osc) (h : s.tickFrame o = some e) :
    (s.framesOf (done ++ [o])).length = (s.framesOf done).length + 1 := by
  simp [State.framesOf, h]

/-- An oscillator's part of a tick, its exchange completing if it has one: it is served after the others (R239). -/
theorem State.CanSend.tickOsc_served (hsend : s.CanSend n) (hn : (s.framesOf (done ++ [o])).length ≤ n)
    (hfs : 1 ≤ s.cfg.fullScale) (hsize : 1 ≤ o.size) (hconv : s.Converts o) :
    (s.served done (o :: rest)).tickOsc done.length = s.served (done ++ [o]) rest := by
  have hplace : done.length = (done.map (Osc.ticked s.cfg.sps)).length := by simp
  have hoscs := s.served_oscs done (o :: rest)
  rw [hplace]
  cases hrun : o.run
  case false => rw [State.tickOsc_of_stopped hoscs hrun, s.served_stopped hrun]
  case true =>
    obtain ⟨code, hcode⟩ := Option.isSome_iff_exists.mp (o.sample_isSome hsize)
    rw [State.tickOsc_of_running hoscs hrun hcode]
    change (s.served done (o.ticked s.cfg.sps :: rest)).forward o code = _
    cases hv : validId (s.chanId o.bind)
    case false => rw [State.forward_of_invalid code (by simpa using hv), s.served_invalid hrun hv]
    case true =>
      have hframe := State.tickFrame_of_running hrun hv hcode
      rw [s.framesOf_concat_length done hframe] at hn
      rw [State.forward_of_valid (s := s.served done _) code hfs (by simpa using hv) fun hmode => hconv hrun hmode hv,
        State.setOut_of_ok (s := s.served done _) _ true hsend.codes (by simpa using hv) (hsend.busOk_served hn),
        State.served_forwarded, State.served_chanId, s.served_valid hv hframe]
      rfl

/-- A tick in which every exchange completes serves every oscillator (R239). -/
theorem State.CanSend.tickAll_eq (hsend : s.CanSend s.tickFrames.length) (hfs : 1 ≤ s.cfg.fullScale)
    (hsize : ∀ o ∈ s.oscs, 1 ≤ o.size) (hconv : ∀ o ∈ s.oscs, s.Converts o) : s.tickAll = s.afterTick := by
  refine State.tickAll_induction (s := s) (P := fun done rest t => t = s.served done rest) (s.served_nil s.oscs).symm ?_
  rintro done o rest _ hoscs rfl
  have hmem : o ∈ s.oscs := by simp [hoscs]
  have hn : (s.framesOf (done ++ [o])).length ≤ s.tickFrames.length := by
    have hsplit : s.oscs = (done ++ [o]) ++ rest := by simp [hoscs]
    rw [State.tickFrames, hsplit, s.framesOf_append (done ++ [o]) rest, List.length_append]
    exact Nat.le_add_right _ _
  rw [State.andThen_of_none (s.served done (o :: rest)) _ hsend.fault]
  exact hsend.tickOsc_served hn hfs (hsize o hmem) (hconv o hmem)

end Served

/-! ### The two forms of a tick -/

/-- A tick outside the fault state over tables with entries (R6, R239). -/
theorem State.withTick_of_none {s : State} (after : State → State) (hf : s.fault = .none)
    (hsize : ∀ o ∈ s.oscs, 1 ≤ o.size) : s.withTick after = .next (after s.tickAll) := by
  have hentries : s.tickLacksEntry = false := by
    simp only [State.tickLacksEntry, List.any_eq_false, Bool.and_eq_true, not_and, Bool.not_eq_true,
      Option.isNone_eq_false_iff]
    exact fun o ho _ => o.sample_isSome (hsize o ho)
  rw [State.withTick_eq, hentries, if_neg (by simp), s.andThen_of_none _ hf]

/-- The TICK word's response: the last frame of the tick, if it sent one (R239). -/
theorem State.afterTick_respond (s : State) (hf : s.fault = .none) :
    (s.afterTick.andThen fun t => t.ok (if s.evlog.length < t.evlog.length then .u24 t.lastFrame else .none)) =
      s.afterTick.answered .ok (if s.tickFrames = [] then .none else .u24 (lastFrameOf s.tickFrames)) := by
  have hlog : s.afterTick.evlog = s.evlog ++ s.tickFrames := rfl
  have hlast : s.afterTick.lastFrame = if s.tickFrames = [] then s.lastFrame else lastFrameOf s.tickFrames := rfl
  rw [State.andThen_of_none s.afterTick _ hf, State.ok_eq, hlog, hlast]
  by_cases hframes : s.tickFrames = []
  · simp [hframes]
  · simp [hframes, List.length_pos_iff]

/-- Settles O54. Both forms are the tick; the tick input is taken before it. -/
theorem tickServesEveryRunningOscillator : Obligations.TickServesEveryRunningOscillator := by
  unfold Obligations.TickServesEveryRunningOscillator
  intro s hf hok hcodes hbus hvref
  obtain ⟨⟨⟨hfs, -⟩, -⟩, -, -, hoscs⟩ := hok
  have hsize : ∀ o ∈ s.oscs, 1 ≤ o.size := fun o ho => (hoscs o ho).1.1
  have hconv : ∀ o ∈ s.oscs, s.Converts o := fun o ho hrun hmode _ =>
    hvref.resolve_right fun hcode => absurd hmode (by simp [hcode o ho hrun])
  have hsend : s.CanSend s.tickFrames.length := ⟨hf, hcodes, hbus⟩
  constructor
  · have hexec : exec .tick s = execTick s := rfl
    rw [hexec, execTick, State.withTick_of_none _ hf hsize, hsend.tickAll_eq hfs hsize hconv, s.afterTick_respond hf]
  · intro rest
    have htaken : State.CanSend { s with inputs := rest } s.tickFrames.length := hsend.congr rfl rfl rfl rfl
    have hstep : step { s with inputs := .tick :: rest } = State.withTick { s with inputs := rest } id := rfl
    rw [hstep, State.withTick_of_none (s := { s with inputs := rest }) id hf hsize, id,
      htaken.tickAll_eq hfs hsize hconv]
    rfl

end Sys2Proof.Machine
end

section
/-! The accumulator over many ticks (spec/43_oscillator.md R241, R243): a tick that raises no fault advances every
Running oscillator once, and an accumulator advanced `n` times has moved by `n` steps. -/

namespace Sys2Proof.Machine

/-! ### What a tick keeps -/

section Keeps

variable {s t : State}

/-- No update writes a parameter or an input to come (R45, R71). -/
theorem State.Update.cfg_inputs (u : State.Update s t) : t.cfg = s.cfg ∧ t.inputs = s.inputs := by
  cases u
  case raise | en | gain => simp
  case exchange =>
    unfold State.exchange
    split
    · exact ⟨rfl, rfl⟩
    · simp
  all_goals exact ⟨rfl, rfl⟩

/-- Nor does a chain of updates. -/
theorem State.Updates.cfg_inputs (h : s.Updates t) : t.cfg = s.cfg ∧ t.inputs = s.inputs :=
  h.keeps (P := fun u => u.cfg = s.cfg ∧ u.inputs = s.inputs) ⟨rfl, rfl⟩ fun _ _ hu step =>
    ⟨step.cfg_inputs.1.trans hu.1, step.cfg_inputs.2.trans hu.2⟩

/-- An exchange writes no oscillator, whether or not it completes (R180, R263). -/
theorem State.exchange_oscs (s : State) (b0 b1 b2 : Byte) : (s.exchange b0 b1 b2).oscs = s.oscs := by
  unfold State.exchange
  split
  · rfl
  · exact State.raise_oscs _ _

/-- A conversion writes no oscillator but what follows it (R160). -/
theorem State.withCode_oscs (s : State) (slot : Slot) (volts : Rat) {f : U16 → State → State}
    (hf : ∀ code, (f code s).oscs = s.oscs) : (s.withCode slot volts f).oscs = s.oscs := by
  unfold State.withCode
  split
  · exact s.raise_oscs _
  · exact hf _

/-- A part that needs a valid identity writes no oscillator but what it is made of (R151). -/
theorem State.onSlot_oscs (s : State) (slot : Slot) {f : State → State} (hf : (f s).oscs = s.oscs) :
    (s.onSlot slot f).oscs = s.oscs := by
  rcases s.onSlot_cases slot f with ⟨-, hpart⟩ | ⟨-, hpart⟩
  · rw [hpart, hf]
  · rw [hpart, s.setEn_oscs]

/-- FORWARD writes no oscillator, whatever it ends in (R242). -/
theorem State.forward_oscs (s : State) (o : Osc) (code : U16) : (s.forward o code).oscs = s.oscs := by
  refine s.onSlot_oscs _ ?_
  split
  · exact s.withCode_oscs _ _ fun code => s.exchange_oscs _ _ _
  · exact s.exchange_oscs _ _ _

end Keeps

/-! ### One tick -/

section Tick

variable {s t : State} {done rest : List Osc} {o : Osc}

/-- An oscillator's part of a tick advances its own record, if it is Running and has an entry to sample (R239). -/
theorem State.tickOsc_oscs (hoscs : s.oscs = done ++ o :: rest) (hsample : o.run = true → o.sample.isSome = true) :
    (s.tickOsc done.length).oscs = done ++ o.ticked s.cfg.sps :: rest := by
  cases hrun : o.run
  case false => rw [State.tickOsc_of_stopped hoscs hrun, Osc.ticked_of_stopped _ hrun, hoscs]
  case true =>
    obtain ⟨code, hcode⟩ := Option.isSome_iff_exists.mp (hsample hrun)
    rw [State.tickOsc_of_running hoscs hrun hcode, State.forward_oscs]

/-- A tick that raises no fault advances every oscillator (R239). -/
theorem State.tickAll_oscs (hsample : ∀ o ∈ s.oscs, o.run = true → o.sample.isSome = true)
    (hf : s.tickAll.fault = .none) : s.tickAll.oscs = s.oscs.map (Osc.ticked s.cfg.sps) := by
  have hall : s.Updates s.tickAll ∧
      (s.tickAll.fault = .none → s.tickAll.oscs = s.oscs.map (Osc.ticked s.cfg.sps) ++ []) := by
    refine State.tickAll_induction (s := s) (P := fun done rest t => s.Updates t ∧
      (t.fault = .none → t.oscs = done.map (Osc.ticked s.cfg.sps) ++ rest)) ⟨.refl, fun _ => rfl⟩ ?_
    rintro done o rest t hoscs ⟨hupdates, hserved⟩
    refine ⟨hupdates.andThen _ fun u => u.tickOsc_updates _, fun hnext => ?_⟩
    have ht : t.fault = .none := State.fault_of_andThen hnext
    have hpart := State.tickOsc_oscs (hserved ht) (hsample o (by simp [hoscs]))
    rw [List.length_map, hupdates.cfg_inputs.1] at hpart
    rw [t.andThen_of_none _ ht, hpart]
    simp
  simpa using hall.2 hf

/-- A step on the tick input is a tick after the input is taken (R238). -/
theorem step_of_tick {inputs : List Input} (h : s.inputs = .tick :: inputs) :
    step s = State.withTick { s with inputs := inputs } id := by
  simp only [step, h]
  rfl

/-- A step on the tick input keeps the parameters and uses its input up (R238). -/
theorem step_tick_cfg_inputs {inputs : List Input} (h : s.inputs = .tick :: inputs) (hstep : step s = .next t) :
    t.cfg = s.cfg ∧ t.inputs = inputs := by
  rw [step_of_tick h] at hstep
  exact (State.withTick_updates _ t id (fun _ => .refl) hstep).cfg_inputs

/-- A step on the tick input that ends outside the fault state began outside it, and advances every oscillator. -/
theorem step_tick_oscs {inputs : List Input} (h : s.inputs = .tick :: inputs) (hstep : step s = .next t)
    (hf : t.fault = .none) : s.fault = .none ∧ t.oscs = s.oscs.map (Osc.ticked s.cfg.sps) := by
  rw [step_of_tick h, State.withTick_eq] at hstep
  split at hstep
  case isTrue => cases hstep
  case isFalse hentries =>
    cases hstep
    have hs : s.fault = .none := State.fault_of_andThen (s := { s with inputs := inputs }) hf
    rw [State.andThen_of_none { s with inputs := inputs } _ hs] at hf ⊢
    refine ⟨hs, State.tickAll_oscs (s := { s with inputs := inputs }) (fun o ho hrun => ?_) hf⟩
    by_contra hnone
    exact hentries ⟨hs, List.any_eq_true.mpr ⟨o, ho, by simpa [hrun] using hnone⟩⟩

end Tick

/-! ### Many ticks -/

/-- A run of one step and more is a step that answers a next state, and the run from there. -/
theorem run_succ {M : Host.Core} {n : Nat} {s t : M.State} (h : M.run (n + 1) s = .next t) :
    ∃ u, M.step s = .next u ∧ M.run n u = .next t := by
  unfold Host.Core.run at h
  split at h
  case h_1 u hstep => exact ⟨u, hstep, h⟩
  case h_2 => cases h
  case h_3 => cases h

/-- A run over `n` ticks that ends outside the fault state was never in it, and has advanced every oscillator `n`
times. -/
theorem run_ticks {n : Nat} {s t : State} {rest : List Input} (hinputs : s.inputs = List.replicate n .tick ++ rest)
    (hrun : Host.Core.run Sys2Proof.core n s = .next t) (hf : t.fault = .none) :
    s.fault = .none ∧ t.oscs = s.oscs.map (Osc.ticked s.cfg.sps)^[n] := by
  induction n generalizing s with
  | zero =>
    cases hrun
    simp [hf]
  | succ n ih =>
    obtain ⟨u, hstep, hrun⟩ := run_succ hrun
    obtain ⟨hcfg, huinputs⟩ := step_tick_cfg_inputs hinputs hstep
    obtain ⟨hu, hlater⟩ := ih huinputs hrun
    obtain ⟨hs, hfirst⟩ := step_tick_oscs hinputs hstep hu
    refine ⟨hs, ?_⟩
    rw [hlater, hfirst, hcfg, List.map_map, Function.iterate_succ]

/-- A Running oscillator advances from any place by the step of its own frequency and table (R241). -/
theorem Osc.ticked_at (sps : Nat) {o : Osc} (hrun : o.run = true) (i : Nat) :
    Osc.ticked sps { o with idx := i } =
      { o with idx := (((i : Int) + ⌊o.freq * o.size / sps⌋) % (o.size : Int)).toNat } :=
  if_pos hrun

/-- An accumulator advanced `n` times, each time reduced into the table, has moved by `n` steps (R243). -/
theorem Osc.ticked_iterate (sps n : Nat) {o : Osc} (hrun : o.run = true) (hidx : o.idx < o.size) :
    (Osc.ticked sps)^[n] o =
      { o with idx := (((o.idx : Int) + n * ⌊o.freq * o.size / sps⌋) % (o.size : Int)).toNat } := by
  induction n with
  | zero =>
    have hmod : ((o.idx : Int) % o.size).toNat = o.idx := by
      rw [Int.emod_eq_of_lt (by omega) (by omega), Int.toNat_natCast]
    simp [hmod]
  | succ n ih =>
    have hnonneg : 0 ≤ ((o.idx : Int) + n * ⌊o.freq * o.size / sps⌋) % (o.size : Int) :=
      Int.emod_nonneg _ (by omega)
    rw [Function.iterate_succ_apply', ih, Osc.ticked_at sps hrun, Int.toNat_of_nonneg hnonneg, Int.emod_add_emod,
      add_assoc, Nat.cast_succ, add_one_mul]

/-- Settles O55. Over the run every oscillator advances `n` times. -/
theorem accumulatorAfterManyTicks : Obligations.AccumulatorAfterManyTicks := by
  unfold Obligations.AccumulatorAfterManyTicks
  intro s t n i rest o hinputs ho hrunning hidx hrun hf
  obtain ⟨-, hoscs⟩ := run_ticks hinputs hrun hf
  rw [hoscs, List.getElem?_map, ho, Option.map_some, Osc.ticked_iterate s.cfg.sps n hrunning hidx]

end Sys2Proof.Machine
end

section
/-! Faults (spec/60_exceptions.md): the fault state and the reset that leaves it (R266, R268), non-finite operands
(R261), and conversions under a zero reference, in a word and in a tick (R239, R262). -/

namespace Sys2Proof.Machine

/-! ### The fault state -/

/-- Every instruction but TICK is a control word or a frame, which are skipped as a whole in the fault state (R266). -/
theorem exec_eq_control {i : Instr} (h : i ≠ .tick) : ∃ body, ∀ s, exec i s = s.control body := by
  cases i
  case tick => exact absurd rfl h
  all_goals exact ⟨_, fun _ => rfl⟩

section InFault

variable {s : State}

/-- In the fault state no instruction does anything (R266). -/
theorem exec_of_fault (i : Instr) (h : s.fault ≠ .none) : exec i s = .next s := by
  by_cases htick : i = .tick
  · subst htick
    exact s.withTick_of_fault _ h
  · obtain ⟨body, hexec⟩ := exec_eq_control htick
    rw [hexec, s.control_of_fault body h]

/-- In the fault state no control word is consumed (R266). -/
theorem stepWord_of_fault (h : s.fault ≠ .none) : stepWord s = .next s := by
  unfold stepWord
  split
  · rfl
  · split
    · exact exec_of_fault _ h
    · exact s.control_of_fault _ h

/-- In the fault state no frame is sent (R266). -/
theorem stepFrame_of_fault (f : U24) (h : s.fault ≠ .none) : stepFrame f s = .next s := by
  unfold stepFrame
  split
  · exact exec_of_fault _ h
  · rfl

/-- In the fault state a step uses its input up and does nothing else, unless the input is the reset (R268). -/
theorem step_of_fault {rest : List Input} {x : Input} (h : s.fault ≠ .none) (hin : s.inputs = x :: rest)
    (hx : x ≠ .reset) : step s = .next { s with inputs := rest } := by
  unfold step
  rw [hin]
  cases x with
  | word => exact stepWord_of_fault (s := { s with inputs := rest }) h
  | tick => exact State.withTick_of_fault { s with inputs := rest } id h
  | reset => exact absurd rfl hx
  | frame f => exact stepFrame_of_fault (s := { s with inputs := rest }) f h

/-- A step on the reset input is the reset, in any state (R290). -/
theorem step_of_reset {rest : List Input} (hin : s.inputs = .reset :: rest) :
    step s = .next (State.applyReset { s with inputs := rest }) := by
  unfold step
  rw [hin]

end InFault

/-- Settles O9. The instructions and the inputs are gone through once each; reset writes every element. -/
theorem onlyResetLeavesTheFaultState : Obligations.OnlyResetLeavesTheFaultState := by
  unfold Obligations.OnlyResetLeavesTheFaultState
  intro s h
  exact ⟨fun i => exec_of_fault i h, fun _ _ hin hx => step_of_fault h hin hx,
    fun _ hin => ⟨_, step_of_reset hin, rfl, rfl, rfl, rfl⟩⟩

/-! ### Operands and conversions of the channel words -/

section ChannelOperands

variable {s : State} {sel : Byte} {slot : Slot} {w : U32}

/-- A channel word with a real operand, on a slot of valid identity: the operand's finiteness is checked first (R150,
R261). -/
theorem State.channelWord_withReal_of_none {body : Slot → Rat → State → State} (hf : s.fault = .none)
    (hsel : s.Selects sel slot) (hw : f32 w = none) :
    (s.channelWord sel fun slot s => s.withReal w (body slot)) = .next { s with fault := .nonfinite } := by
  rw [s.channelWord_of_selects sel slot _ hf hsel, s.withReal_of_none w _ hw, s.raise_of_none _ hf]

/-- With a zero reference no gain makes the denominator of a conversion nonzero (R160, R262). -/
theorem State.withCode_of_vref_zero {body : U16 → State → State} (volts : Rat) (hf : s.fault = .none)
    (hvref : s.vref = 0) : s.withCode slot volts body = { s with fault := .div0 } := by
  rw [s.withCode_of_zero slot volts body (by rw [hvref, zero_mul]), s.raise_of_none _ hf]

/-- A channel word that converts a finite operand, on a slot of valid identity with a zero reference (R262). -/
theorem State.channelWord_withCode_of_vref_zero {q : Rat} {body : Slot → U16 → State → State} (hf : s.fault = .none)
    (hvref : s.vref = 0) (hsel : s.Selects sel slot) (hw : f32 w = some q) :
    (s.channelWord sel fun slot s => s.withReal w fun q s => s.withCode slot q (body slot)) =
      .next { s with fault := .div0 } := by
  rw [s.channelWord_of_selects sel slot _ hf hsel, s.withReal_of_some w q _ hw, State.withCode_of_vref_zero q hf hvref]

end ChannelOperands

/-- Settles O38. Every word with a real operand checks it right after its selector and identity. -/
theorem nonFiniteOperandFaults : Obligations.NonFiniteOperandFaults := by
  unfold Obligations.NonFiniteOperandFaults
  intro w s hf hw
  refine ⟨fun sel slot au hsel => State.channelWord_withReal_of_none hf hsel hw,
    fun sel slot hsel => State.channelWord_withReal_of_none hf hsel hw, (devVrefResult w s hf).1 hw,
    fun sel o hsel => ⟨?freq, ?amp, ?phase, ?dc⟩⟩
  all_goals exact State.oscWord_withReal_of_none hf hsel hw

/-! ### A tick that ends in a fault -/

section FaultingTick

variable {s u : State} {pre post : List Osc} {o : Osc}

/-- In a state in range every table has an entry (R6). -/
theorem State.Ok.one_le_size (hok : s.Ok) : ∀ x ∈ s.oscs, 1 ≤ x.size := by
  obtain ⟨-, -, -, hoscs⟩ := hok
  exact fun x hx => (hoscs x hx).1.1

/-- A tick whose first fault is raised by the part of `o`: those before it are served, those after it are not processed
(R239). -/
theorem State.CanSend.tickAll_of_fault (hsend : s.CanSend (s.framesOf pre).length) (hfs : 1 ≤ s.cfg.fullScale)
    (hsize : ∀ x ∈ pre, 1 ≤ x.size) (hconv : ∀ x ∈ pre, s.Converts x) (hoscs : s.oscs = pre ++ o :: post)
    (hpart : (s.served pre (o :: post)).tickOsc pre.length = u) (hu : u.fault ≠ .none) : s.tickAll = u := by
  have hall : (s.oscs <+: pre ∧ s.tickAll = s.served s.oscs []) ∨ s.tickAll = u := by
    refine State.tickAll_induction (s := s)
      (P := fun done rest t => (done <+: pre ∧ t = s.served done rest) ∨ t = u)
      (.inl ⟨⟨pre, rfl⟩, (s.served_nil s.oscs).symm⟩) ?_
    rintro done x rest t hsplit (⟨⟨todo, rfl⟩, rfl⟩ | rfl)
    case inr => exact .inr (t.andThen_of_fault _ hu)
    rw [State.andThen_of_none (s.served done (x :: rest)) _ hsend.fault]
    have htail : todo ++ o :: post = x :: rest := by simpa [hoscs] using hsplit
    cases todo with
    | nil =>
      obtain ⟨rfl, rfl⟩ := List.cons.inj htail
      simp only [List.append_nil] at hpart
      exact .inr hpart
    | cons y todo =>
      obtain ⟨rfl, -⟩ := List.cons.inj htail
      have hserved : done ++ [y] <+: done ++ y :: todo := ⟨todo, by simp⟩
      have hn := (hserved.filterMap s.tickFrame).length_le
      have hmem : y ∈ done ++ y :: todo := by simp
      exact .inl ⟨hserved, hsend.tickOsc_served hn hfs (hsize y hmem) (hconv y hmem)⟩
  refine hall.resolve_left fun ⟨hserved, _⟩ => ?_
  have hlength := hserved.length_le
  simp [hoscs] at hlength

/-- FORWARD in voltage mode, to a slot of valid identity with a zero reference (R242, R262). -/
theorem State.forward_of_vref_zero (code : U16) (hf : s.fault = .none) (hvref : s.vref = 0)
    (hv : validId (s.chanId o.bind) = true) (hmode : o.vmode = true) :
    s.forward o code = { s with fault := .div0 } := by
  rw [State.forward, State.onSlot, if_pos hv, if_pos hmode, State.withCode_of_vref_zero _ hf hvref]

/-- A tick with a zero reference ends at the first Running voltage-mode oscillator on a slot of valid identity, which
has advanced (R239, R262). -/
theorem State.CanSend.tickAll_of_vref_zero (hsend : s.CanSend (s.framesOf pre).length) (hvref : s.vref = 0)
    (hok : s.Ok) (hoscs : s.oscs = pre ++ o :: post)
    (hpre : ∀ x ∈ pre, x.run = true → x.vmode = true → validId (s.chanId x.bind) = false) (hrun : o.run = true)
    (hmode : o.vmode = true) (hv : validId (s.chanId o.bind) = true) :
    s.tickAll = { s.served pre (o.ticked s.cfg.sps :: post) with fault := .div0 } := by
  have hsize := hok.one_le_size
  obtain ⟨⟨⟨hfs, -⟩, -⟩, -⟩ := hok
  have hconv : ∀ x ∈ pre, s.Converts x := fun x hx hxrun hxmode hxv => by simp [hpre x hx hxrun hxmode] at hxv
  obtain ⟨code, hcode⟩ := Option.isSome_iff_exists.mp (o.sample_isSome (hsize o (by simp [hoscs])))
  have hpart : (s.served pre (o :: post)).tickOsc pre.length =
      (s.served pre (o.ticked s.cfg.sps :: post)).forward o code := by
    have hpart := State.tickOsc_of_running (s.served_oscs pre (o :: post)) hrun hcode
    rwa [List.length_map] at hpart
  rw [State.forward_of_vref_zero (s := s.served pre _) code hsend.fault hvref (by simpa using hv) hmode] at hpart
  exact hsend.tickAll_of_fault hfs (fun x hx => hsize x (by simp [hoscs, hx])) hconv hoscs hpart (by simp)

/-- The TICK word answers nothing in a tick that faults (R239, R266). -/
theorem exec_tick_of_fault (hf : s.fault = .none) (hsize : ∀ x ∈ s.oscs, 1 ≤ x.size) (htick : s.tickAll = u)
    (hu : u.fault ≠ .none) : exec .tick s = .next u := by
  have hexec : exec .tick s = execTick s := rfl
  rw [hexec, execTick, State.withTick_of_none _ hf hsize, htick, u.andThen_of_fault _ hu]

/-- The tick input outside the fault state is the tick, after the input is taken (R238). -/
theorem step_tick_of_none {rest : List Input} (hf : s.fault = .none) (hsize : ∀ x ∈ s.oscs, 1 ≤ x.size) :
    step { s with inputs := .tick :: rest } = .next (State.tickAll { s with inputs := rest }) := by
  rw [step_of_tick (s := { s with inputs := .tick :: rest }) rfl]
  exact State.withTick_of_none (s := { s with inputs := rest }) id hf hsize

end FaultingTick

/-- Settles O39. The words fault in their conversion; the two forms of a tick are the one tick, of `s` and of `s` after
its input is taken. -/
theorem zeroReferenceFaults : Obligations.ZeroReferenceFaults := by
  unfold Obligations.ZeroReferenceFaults
  intro s hf hvref
  refine ⟨fun sel slot au w q hsel hw => ⟨State.channelWord_withCode_of_vref_zero hf hvref hsel hw,
    State.channelWord_withCode_of_vref_zero hf hvref hsel hw⟩, ?ticks,
    fun sel slot code hsel => ⟨_, s.channelWord_of_selects sel slot _ hf hsel⟩⟩
  intro pre o post hok hcodes hoscs hpre hbus hrun hmode hv
  have hsend : s.CanSend (s.framesOf pre).length := ⟨hf, hcodes, hbus⟩
  constructor
  case left =>
    have htick := hsend.tickAll_of_vref_zero hvref hok hoscs hpre hrun hmode hv
    exact exec_tick_of_fault hf hok.one_le_size htick (by simp)
  case right =>
    intro rest
    have htaken : State.CanSend { s with inputs := rest } (s.framesOf pre).length := hsend.congr rfl rfl rfl rfl
    rw [step_tick_of_none hf hok.one_le_size, htaken.tickAll_of_vref_zero hvref hok hoscs hpre hrun hmode hv]
    rfl

end Sys2Proof.Machine
end

section
/-! Reset (spec/70_reset_and_hazards.md R290): the elements of the state after it, the oscillators' one by one. -/

namespace Sys2Proof.Machine

/-- An oscillator at reset has the reset values of S17 to S26 and the table of R226 for the reset kind, amplitude and
offset: that table takes from the oscillator only the table it had (R290). -/
theorem Osc.atReset_eq (fullScale i : Nat) (o : Osc) :
    Osc.atReset fullScale i o.table =
      { freq := 0
        amp := 1
        ph := 0
        dc := 0
        kind := if i % 2 = 0 then .sine else .saw
        run := false
        idx := 0
        bind := if i % 2 = 0 then .a else .b
        vmode := false
        table := o.tableFor fullScale (if i % 2 = 0 then .sine else .saw) 1 0 } :=
  Osc.regen_eq_tableFor fullScale _

section AfterReset

variable (s : State)

/-- Reset keeps the number of oscillators (R4, R45). -/
theorem State.applyReset_oscs_length : s.applyReset.oscs.length = s.oscs.length := by
  simp [State.applyReset, State.atReset]

/-- Reset puts each oscillator at its reset values, by its number (R290). -/
theorem State.applyReset_getElem? {i : Nat} {o : Osc} (h : s.oscs[i]? = some o) :
    s.applyReset.oscs[i]? = some (Osc.atReset s.cfg.fullScale i o.table) := by
  simp [State.applyReset, State.atReset, h]

end AfterReset

/-- Settles O11. The step on the reset input is the reset: the scalar elements are read off it, and the oscillators
are its list, entry by entry. -/
theorem resetGivesEveryElementItsResetValue : Obligations.ResetGivesEveryElementItsResetValue := by
  unfold Obligations.ResetGivesEveryElementItsResetValue
  intro s rest hin
  refine ⟨_, step_of_reset hin, rfl, rfl, rfl, rfl, rfl, rfl, rfl, rfl, rfl, rfl, rfl, rfl, rfl, rfl, rfl, rfl,
    State.applyReset_oscs_length _, fun i o ho => ?_⟩
  rw [State.applyReset_getElem? { s with inputs := rest } ho, Osc.atReset_eq]

end Sys2Proof.Machine
end

section
/-! The encoding of spec/30_encoding.md: every instruction is read back from the bits it is written as (R80, R100 to
R103), and no two rows of one format share bits (R102). -/

namespace Sys2Proof.Machine

/-! ### Operands in part of a field (R101) -/

/-- A flag in the lowest bit of a field. -/
theorem getLsbD_zero_append_ofBool {n : Nat} (x : BitVec n) (v : Bool) : (x ++ BitVec.ofBool v).getLsbD 0 = v := by
  rw [BitVec.getLsbD_append]
  cases v <;> rfl

/-- A field that is the lower part of two words side by side. -/
theorem extractLsb'_append_right {m n : Nat} (x : BitVec m) (y : BitVec n) : (x ++ y).extractLsb' 0 n = y := by
  apply BitVec.eq_of_getLsbD_eq
  intro i hi
  simp [BitVec.getLsbD_append, hi]

/-- The operands of DEV_WRITE: the address at the bottom of W32, the command and the flag above it. -/
theorem devWrite_operands (addr cmd : Byte) (cfg : Bool) :
    (0#15 ++ BitVec.ofBool cfg ++ cmd ++ addr).extractLsb' 0 8 = addr ∧
    (0#15 ++ BitVec.ofBool cfg ++ cmd ++ addr).extractLsb' 8 8 = cmd ∧
    (0#15 ++ BitVec.ofBool cfg ++ cmd ++ addr).getLsbD 16 = cfg := by
  refine ⟨extractLsb'_append_right _ addr, BitVec.eq_of_getLsbD_eq fun i hi => ?_, ?_⟩
  · simp only [BitVec.getLsbD_extractLsb', BitVec.getLsbD_append]
    simp [hi]
  · simp only [BitVec.getLsbD_append]
    simp

/-! ### Reading back what is written -/

/-- A control word is read back: OP selects its own row, and each operand stands in its own field. -/
theorem decodeWord_of_encode {i : Instr} {w : ControlWord} (h : encode i = .word w) : decodeWord w = .ok i := by
  cases i <;> cases h
  case frLoad frame =>
    rw [decodeWord, opField_mkWord, w32Field_mkWord, extractLsb'_append_right]
    rfl
  case chSetout sel code au =>
    rw [decodeWord, opField_mkWord, selField_mkWord, immField_mkWord, w32Field_mkWord, getLsbD_zero_append_ofBool]
    rfl
  case chSetv sel au volts =>
    rw [decodeWord, opField_mkWord, selField_mkWord, immField_mkWord, w32Field_mkWord, getLsbD_zero_append_ofBool]
    rfl
  case devWrite data addr cmd cfg =>
    obtain ⟨haddr, hcmd, hcfg⟩ := devWrite_operands addr cmd cfg
    rw [decodeWord, opField_mkWord, immField_mkWord, w32Field_mkWord, haddr, hcmd, hcfg]
    rfl
  all_goals
    rw [decodeWord, opField_mkWord, selField_mkWord, immField_mkWord, w32Field_mkWord]
    rfl

/-- A wire frame is read back: CMD and ADDR stand in its first byte, the data below it. -/
theorem decodeFrame_of_encode {i : Instr} {f : U24} (h : encode i = .frame f) : decodeFrame f = .ok i := by
  cases i <;> cases h
  all_goals
    rw [decodeFrame, cmdField_append, addrField_append, dataField_append]
    rfl

/-- Settles O1. An instruction is written as a control word or as a frame. -/
theorem decodeInvertsEncode : Obligations.DecodeInvertsEncode := by
  unfold Obligations.DecodeInvertsEncode
  intro i
  cases h : encode i with
  | word w => exact decodeWord_of_encode h
  | frame f => exact decodeFrame_of_encode h

/-- Settles O2. Eight closed words. -/
theorem wordsOfTheSpecDecode : Obligations.WordsOfTheSpecDecode := by
  unfold Obligations.WordsOfTheSpecDecode
  decide

/-! ### Rows of one format -/

/-- Bits that fit two rows agree with both where both masks are 1. -/
theorem patterns_agree_of_rowFits {a b : Row} {w : Nat} (ha : rowFits a w) (hb : rowFits b w) :
    a.pattern &&& b.mask = b.pattern &&& a.mask := by
  unfold rowFits at ha hb
  rw [← ha, ← hb, Nat.and_assoc, Nat.and_assoc, Nat.and_comm a.mask]

/-- Any two rows of the opcode table of one format differ in a bit that both fix. -/
theorem opcodeRows_patterns_differ :
    opcodeRows.Pairwise fun a b => a.bits = b.bits → a.pattern &&& b.mask ≠ b.pattern &&& a.mask := by
  decide +kernel

/-- Settles O6. The bit in which two rows differ has one value in the bits that fit. -/
theorem opcodeRowsDoNotOverlap : Obligations.OpcodeRowsDoNotOverlap := by
  unfold Obligations.OpcodeRowsDoNotOverlap
  exact opcodeRows_patterns_differ.imp fun hdiffer hbits _ ⟨ha, hb⟩ => hdiffer hbits (patterns_agree_of_rowFits ha hb)

end Sys2Proof.Machine
end

section
/-! The step on an offered word (spec/10_state.md R21, spec/20_memory.md R70): what runs, and how a word is placed. -/

namespace Sys2Proof.Machine

variable {s : State} {rest : List Input} {i : Instr}

/-- The step on the next control word, if it decodes (R21, R102). -/
theorem step_of_word {w : ControlWord} (hin : s.inputs = .word :: rest) (hw : s.stream[s.pc]? = some w)
    (hi : decode (.word w) = .ok i) : step s = exec i { s with inputs := rest } := by
  have hfetch : State.fetchWord { s with inputs := rest } = some w := hw
  simp only [step, hin, stepWord, hfetch, hi]

/-- The step on a frame of the frame port that is a row of the opcode table (log entry 10). -/
theorem step_of_frame {f : U24} (hin : s.inputs = .frame f :: rest) (hi : decode (.frame f) = .ok i) :
    step s = exec i { s with inputs := rest } := by
  simp only [step, hin, stepFrame, hi]

/-- Settles O7. The two inputs that carry bits. -/
theorem stepRunsTheDecodedInstruction : Obligations.StepRunsTheDecodedInstruction := by
  unfold Obligations.StepRunsTheDecodedInstruction
  exact ⟨fun _ _ _ _ => step_of_word, fun _ _ _ _ => step_of_frame⟩

/-- The word placed is the word read there. -/
theorem getElem?_placeWord_same (stream : List ControlWord) (n : Nat) (w : ControlWord) :
    (placeWord stream n w)[n]? = some w := by
  fun_induction placeWord stream n w with
  | case1 w => rfl
  | case2 w n ih => simpa using ih
  | case3 w x rest => rfl
  | case4 w x rest n ih => simpa using ih

/-- No other word that the stream had is changed by the placing. -/
theorem getElem?_placeWord_other {stream : List ControlWord} {n m : Nat} {w x : ControlWord} (hm : m ≠ n)
    (hx : stream[m]? = some x) : (placeWord stream n w)[m]? = some x := by
  fun_induction placeWord stream n w generalizing m with
  | case1 w => simp at hx
  | case2 w n ih => simp at hx
  | case3 w y rest =>
    obtain ⟨m, rfl⟩ := Nat.exists_eq_succ_of_ne_zero hm
    exact hx
  | case4 w y rest n ih =>
    cases m with
    | zero => exact hx
    | succ m => exact ih (fun h => hm (congrArg Nat.succ h)) hx

/-- Settles O8. The word is placed at `pc`, where the step reads it. -/
theorem offeredWordIsTheNextToRun : Obligations.OfferedWordIsTheNextToRun := by
  unfold Obligations.OfferedWordIsTheNextToRun
  intro s w i hi
  have hplaced := getElem?_placeWord_same s.stream s.pc (BitVec.ofNat 64 w)
  exact ⟨placeWord s.stream s.pc (BitVec.ofNat 64 w), step_of_word (s := s.withFetchWord 64 w) rfl hplaced hi, hplaced,
    fun _ _ => getElem?_placeWord_other⟩

end Sys2Proof.Machine
end

section
/-! What every step keeps (spec/10_state.md): the parameters (R45), the value sets (R24, R34 to R37, R40), the log and
`LAST_FRAME` (R29, R44, R81), each from what one update can do and what reset does; and the state after reset, which
has it all (R290). -/

namespace Sys2Proof.Machine

/-- What an input taken, an update and a reset each keep, a step keeps. -/
theorem step_keeps {P : State → Prop} {s t : State} (h : step s = .next t) (hs : P s)
    (hinput : ∀ (u : State) (rest : List Input), P u → P { u with inputs := rest })
    (hupdate : ∀ u v : State, P u → State.Update u v → P v) (hreset : ∀ u : State, P u → P u.applyReset) : P t := by
  rcases step_cases s t h with ⟨-, rfl⟩ | ⟨rest, -, rfl⟩ | ⟨x, rest, -, -, hchain⟩
  · exact hs
  · exact hreset _ (hinput s rest hs)
  · exact hchain.keeps (hinput s rest hs) hupdate

/-! ### What one update can do to the oscillators, the reference and the log -/

section OneUpdate

variable {s t : State}

/-- An exchange writes no reference. -/
theorem State.exchange_vref (s : State) (b0 b1 b2 : Byte) : (s.exchange b0 b1 b2).vref = s.vref := by
  unfold State.exchange
  split
  · rfl
  · exact State.raise_vref _ _

/-- The oscillators stay, or one of them is updated. -/
theorem State.Update.oscs_cases (u : State.Update s t) :
    t.oscs = s.oscs ∨
    ∃ i o o', s.oscs[i]? = some o ∧ Osc.Update s.cfg o o' ∧ t.oscs = s.oscs.set i o' := by
  cases u
  case osc i o o' h u => exact .inr ⟨i, o, o', h, u, rfl⟩
  all_goals left
  case raise => exact s.raise_oscs _
  case en => exact s.setEn_oscs _ _
  case gain => exact s.setGain_oscs _ _
  case exchange => exact s.exchange_oscs _ _ _
  all_goals rfl

/-- The reference stays, or takes a clamped value (R183). -/
theorem State.Update.vref_cases (u : State.Update s t) : t.vref = s.vref ∨ ∃ q, t.vref = clampRat q 0 5 := by
  cases u
  case vref q => exact .inr ⟨q, rfl⟩
  all_goals left
  case raise => exact s.raise_vref _
  case en => exact s.setEn_vref _ _
  case gain => exact s.setGain_vref _ _
  case exchange => exact s.exchange_vref _ _ _
  all_goals rfl

/-- The log stays, or a frame with its reserved bits 0 joins it and is the last frame, or a pulse joins it. -/
theorem State.Update.log_cases (u : State.Update s t) :
    (t.evlog = s.evlog ∧ t.lastFrame = s.lastFrame) ∨
    (∃ b0 b1 b2, b0 &&& 0xC0 = 0 ∧ t.evlog = s.evlog ++ [.frame b0 b1 b2] ∧ t.lastFrame = frameValue b0 b1 b2) ∨
    (∃ line, t.evlog = s.evlog ++ [.pulse line] ∧ t.lastFrame = s.lastFrame) := by
  cases u
  case exchange b0 b1 b2 hreserved =>
    unfold State.exchange
    split
    · exact .inr (.inl ⟨b0, b1, b2, hreserved, rfl, rfl⟩)
    · exact .inl ⟨State.raise_evlog _ _, State.raise_lastFrame _ _⟩
  case ldacPulse => exact .inr (.inr ⟨.ldac, rfl, rfl⟩)
  case clrPulse => exact .inr (.inr ⟨.clr, rfl, rfl⟩)
  all_goals left
  case raise => exact ⟨s.raise_evlog _, s.raise_lastFrame _⟩
  case en => exact ⟨s.setEn_evlog _ _, s.setEn_lastFrame _ _⟩
  case gain => exact ⟨s.setGain_evlog _ _, s.setGain_lastFrame _ _⟩
  all_goals exact ⟨rfl, rfl⟩

/-- What every oscillator has and an oscillator's own update keeps, every oscillator still has. -/
theorem State.Update.forall_oscs {P : Osc → Prop} (u : State.Update s t) (hs : ∀ o ∈ s.oscs, P o)
    (hosc : ∀ o o' : Osc, P o → Osc.Update s.cfg o o' → P o') : ∀ o ∈ t.oscs, P o := by
  rcases u.oscs_cases with h | ⟨i, o, o', ho, uo, h⟩
  · rwa [h]
  · rw [h]
    intro x hx
    rcases List.mem_or_eq_of_mem_set hx with hx | rfl
    · exact hs x hx
    · exact hosc o _ (hs o (List.mem_of_getElem? ho)) uo

end OneUpdate

/-! ### Oscillators after regeneration and at reset -/

section Oscillators

variable {o : Osc}

/-- Regeneration keeps the ranges: it writes the table alone, at its size. -/
theorem Osc.Ok.regen (h : o.Ok) (fullScale : Nat) : (o.regen fullScale).Ok := by
  have hsize := Osc.regen_size fullScale o
  rw [Osc.regen_eq] at hsize ⊢
  unfold Osc.Ok at h ⊢
  rwa [hsize]

/-- Every update of an oscillator in range ends in range: what it writes is clamped, reduced or regenerated. -/
theorem Osc.Update.ok {cfg : Config} {o' : Osc} (u : Osc.Update cfg o o') (h : o.Ok) : o'.Ok := by
  obtain ⟨hsize, hidx, hamp, hph, hdc⟩ := h
  cases u
  case amp q =>
    have hclamped := clampRat_mem q 0 1 (by norm_num)
    exact Osc.Ok.regen (o := { o with amp := clampRat q 0 1 }) ⟨hsize, hidx, hclamped, hph, hdc⟩ _
  case dc q =>
    have hclamped := clampRat_mem q (-1) 1 (by norm_num)
    exact Osc.Ok.regen (o := { o with dc := clampRat q (-1) 1 }) ⟨hsize, hidx, hamp, hph, hclamped⟩ _
  case kind k => exact Osc.Ok.regen (o := { o with kind := k }) ⟨hsize, hidx, hamp, hph, hdc⟩ _
  case ph q => exact ⟨hsize, hidx, hamp, modRat_mem q o.size hsize.1, hdc⟩
  case entry i v =>
    have hlength : Osc.size { o with table := memWrite o.table i v } = o.size := memWrite_length _ _ _
    unfold Osc.Ok
    rw [hlength]
    exact ⟨hsize, hidx, hamp, hph, hdc⟩
  case advance => exact ⟨hsize, o.advance_idx_lt cfg.sps hsize.1, hamp, hph, hdc⟩
  all_goals exact ⟨hsize, hidx, hamp, hph, hdc⟩

/-- Only OSC_FREQ writes a frequency, and it writes the value of its operand (R222). -/
theorem Osc.Update.freq_finite {cfg : Config} {o' : Osc} (u : Osc.Update cfg o o') (h : ∃ w, f32 w = some o.freq) :
    ∃ w, f32 w = some o'.freq := by
  cases u
  case freq w q hw => exact ⟨w, hw⟩
  case amp | dc | kind => rwa [Osc.regen_eq]
  all_goals exact h

/-- Reset keeps the table size. -/
theorem Osc.atReset_size (fullScale i : Nat) (o : Osc) : (Osc.atReset fullScale i o.table).size = o.size :=
  Osc.regen_size _ _

/-- The reset values are in range (R35 to R37, R40). -/
theorem Osc.atReset_ok (fullScale i : Nat) (h : 1 ≤ o.size ∧ o.size ≤ 65536) :
    (Osc.atReset fullScale i o.table).Ok := by
  have hpos : (0 : Rat) < o.size := by exact_mod_cast h.1
  have hsize := Osc.atReset_size fullScale i o
  rw [Osc.atReset_eq] at hsize ⊢
  unfold Osc.Ok
  rw [hsize]
  refine ⟨h, h.1, ⟨?_, ?_⟩, ⟨le_rfl, hpos⟩, ?_, ?_⟩
  all_goals norm_num

/-- An oscillator after reset is one at its reset values, made from one before it (R290). -/
theorem State.mem_atReset_oscs {cfg : Config} {oscs : List Osc} {stream : List ControlWord} {inputs : List Input}
    {bus : List Bool} {n : Nat} {x : Osc} (hx : x ∈ (State.atReset cfg oscs stream inputs bus n).oscs) :
    ∃ i, ∃ o ∈ oscs, x = Osc.atReset cfg.fullScale i o.table := by
  obtain ⟨⟨o, i⟩, ho, rfl⟩ := List.mem_map.mp hx
  exact ⟨i, o, List.fst_mem_of_mem_zipIdx ho, rfl⟩

end Oscillators

/-! ### The state at reset -/

section AtReset

variable (cfg : Config) (oscs : List Osc) (stream : List ControlWord) (inputs : List Input) (bus : List Bool) (n : Nat)

/-- With parameters in range and tables of 1 to 65536 entries, the state at reset is in range. -/
theorem State.atReset_ok (hcfg : cfg.Ok) (hcount : 1 ≤ oscs.length ∧ oscs.length ≤ 256)
    (hsize : ∀ o ∈ oscs, 1 ≤ o.size ∧ o.size ≤ 65536) : (State.atReset cfg oscs stream inputs bus n).Ok := by
  have hlength : (State.atReset cfg oscs stream inputs bus n).oscs.length = oscs.length := by simp [State.atReset]
  refine ⟨hcfg, hcfg.2.2, by rwa [hlength], fun x hx => ?_⟩
  obtain ⟨i, o, ho, rfl⟩ := State.mem_atReset_oscs hx
  exact Osc.atReset_ok _ _ (hsize o ho)

/-- At reset the log is empty and `LAST_FRAME` is 0. -/
theorem State.atReset_logOk : (State.atReset cfg oscs stream inputs bus n).LogOk :=
  ⟨rfl, fun _ he => absurd he (List.not_mem_nil)⟩

/-- At reset every frequency is 0. -/
theorem State.atReset_freqsFinite : (State.atReset cfg oscs stream inputs bus n).FreqsFinite := by
  intro x hx
  obtain ⟨i, o, -, rfl⟩ := State.mem_atReset_oscs hx
  exact ⟨rne32 0, by rw [Osc.atReset_eq, f32_rne32_zero]⟩

end AtReset

/-! ### The parameters -/

/-- No update writes a parameter (R45). -/
theorem State.Update.params_eq {s t : State} (u : State.Update s t) : t.params = s.params := by
  have hsizes : t.oscs.map Osc.size = s.oscs.map Osc.size := by
    rcases u.oscs_cases with h | ⟨i, o, o', ho, uo, h⟩
    · rw [h]
    · obtain ⟨hi, rfl⟩ := List.getElem?_eq_some_iff.mp ho
      rw [h, List.map_set, uo.size, ← List.getElem_map Osc.size (h := by simpa using hi), List.set_getElem_self]
  exact Prod.ext u.cfg_inputs.1 hsizes

/-- Reset writes no parameter (R45, R290). -/
theorem State.applyReset_params (s : State) : s.applyReset.params = s.params := by
  refine Prod.ext rfl (List.ext_getElem? fun i => ?_)
  change (s.applyReset.oscs.map Osc.size)[i]? = (s.oscs.map Osc.size)[i]?
  rw [List.getElem?_map, List.getElem?_map]
  cases ho : s.oscs[i]? with
  | none =>
    rw [List.getElem?_eq_none (by rw [s.applyReset_oscs_length]; exact List.getElem?_eq_none_iff.mp ho)]
  | some o =>
    rw [s.applyReset_getElem? ho, Option.map_some, Option.map_some, Osc.atReset_size]

/-- Settles O17. -/
theorem stepKeepsTheParameters : Obligations.StepKeepsTheParameters := by
  unfold Obligations.StepKeepsTheParameters
  intro s t h
  exact step_keeps (P := fun u => u.params = s.params) h rfl (fun _ _ hu => hu)
    (fun _ _ hu u => u.params_eq.trans hu) fun u hu => u.applyReset_params.trans hu

/-! ### The value sets -/

/-- Every update of a state in range ends in range. -/
theorem State.Update.ok {s t : State} (u : State.Update s t) (h : s.Ok) : t.Ok := by
  obtain ⟨hcfg, hvref, hcount, hoscs⟩ := h
  refine ⟨by rwa [u.cfg_inputs.1], ?_, ?_, u.forall_oscs hoscs fun _ _ ho uo => uo.ok ho⟩
  · rcases u.vref_cases with h | ⟨q, h⟩
    · rwa [h]
    · rw [h]
      exact clampRat_mem q 0 5 (by norm_num)
  · rcases u.oscs_cases with h | ⟨i, o, o', -, -, h⟩
    · rwa [h]
    · rwa [h, List.length_set]

/-- Reset in a state in range ends in range. -/
theorem State.Ok.applyReset {s : State} (h : s.Ok) : s.applyReset.Ok := by
  obtain ⟨hcfg, -, hcount, hoscs⟩ := h
  exact State.atReset_ok _ _ _ _ _ _ hcfg hcount fun o ho => (hoscs o ho).1

/-- An instruction has a next state, if every table has an entry (log entry 8). -/
theorem exec_eq_next {s : State} (i : Instr) (hsize : ∀ o ∈ s.oscs, 1 ≤ o.size) : ∃ t, exec i s = .next t := by
  by_cases htick : i = .tick
  · subst htick
    by_cases hf : s.fault = .none
    · exact ⟨_, s.withTick_of_none _ hf hsize⟩
    · exact ⟨s, exec_of_fault _ hf⟩
  · obtain ⟨body, hexec⟩ := exec_eq_control htick
    exact ⟨_, hexec s⟩

/-- A step has a next state, if every table has an entry. -/
theorem step_eq_next {s : State} (hsize : ∀ o ∈ s.oscs, 1 ≤ o.size) : ∃ t, step s = .next t := by
  unfold step
  split
  case h_1 => exact ⟨s, rfl⟩
  case h_2 rest _ =>
    unfold stepWord
    split
    · exact ⟨_, rfl⟩
    · split
      · exact exec_eq_next (s := { s with inputs := rest }) _ hsize
      · exact ⟨_, rfl⟩
  case h_3 rest _ =>
    by_cases hf : s.fault = .none
    · exact ⟨_, State.withTick_of_none (s := { s with inputs := rest }) id hf hsize⟩
    · exact ⟨_, State.withTick_of_fault { s with inputs := rest } id hf⟩
  case h_4 => exact ⟨_, rfl⟩
  case h_5 rest _ =>
    unfold stepFrame
    split
    · exact exec_eq_next (s := { s with inputs := rest }) _ hsize
    · exact ⟨_, rfl⟩

/-- Settles O14. In range, every table has an entry, so the step goes on. -/
theorem stepKeepsTheStateInRange : Obligations.StepKeepsTheStateInRange := by
  unfold Obligations.StepKeepsTheStateInRange
  intro s hok
  obtain ⟨t, ht⟩ := step_eq_next hok.one_le_size
  exact ⟨t, ht, step_keeps ht hok (fun _ _ hu => hu) (fun _ _ hu u => u.ok hu) fun _ hu => hu.applyReset⟩

/-- Settles O16. -/
theorem stepKeepsFrequenciesBinary32 : Obligations.StepKeepsFrequenciesBinary32 := by
  unfold Obligations.StepKeepsFrequenciesBinary32
  intro s t hs h
  exact step_keeps h hs (fun _ _ hu => hu) (fun _ _ hu u => u.forall_oscs hu fun _ _ ho uo => uo.freq_finite ho)
    fun u _ => State.atReset_freqsFinite _ _ _ _ _ _

/-! ### The log -/

/-- The last frame of a log that a frame joins is that frame, and a pulse is none (R29). -/
theorem lastFrameOf_append (log : List Event) :
    (∀ b0 b1 b2, lastFrameOf (log ++ [.frame b0 b1 b2]) = frameValue b0 b1 b2) ∧
    ∀ line, lastFrameOf (log ++ [.pulse line]) = lastFrameOf log := by
  simp [lastFrameOf]

/-- Every update keeps `LAST_FRAME` the last frame of the log, and the reserved bits 0. -/
theorem State.Update.logOk {s t : State} (u : State.Update s t) (h : s.LogOk) : t.LogOk := by
  obtain ⟨hlast, hreserved⟩ := h
  unfold State.LogOk
  rcases u.log_cases with ⟨hlog, hframe⟩ | ⟨b0, b1, b2, hb, hlog, hframe⟩ | ⟨line, hlog, hframe⟩
  · rw [hlog, hframe]
    exact ⟨hlast, hreserved⟩
  · rw [hlog, hframe, (lastFrameOf_append _).1]
    exact ⟨rfl, List.forall_mem_append.mpr ⟨hreserved, by simpa [Event.reservedZero] using hb⟩⟩
  · rw [hlog, hframe, (lastFrameOf_append _).2]
    exact ⟨hlast, List.forall_mem_append.mpr ⟨hreserved, by simp [Event.reservedZero]⟩⟩

/-- Settles O15. -/
theorem stepKeepsLastFrameAndReservedBits : Obligations.StepKeepsLastFrameAndReservedBits := by
  unfold Obligations.StepKeepsLastFrameAndReservedBits
  intro s t hs h
  exact step_keeps h hs (fun _ _ hu => hu) (fun _ _ hu u => u.logOk hu) fun u _ => State.atReset_logOk _ _ _ _ _ _

/-- An update only appends to the log (R44). -/
theorem State.Update.evlog_prefix {s t : State} (u : State.Update s t) : s.evlog <+: t.evlog := by
  rcases u.log_cases with ⟨hlog, -⟩ | ⟨b0, b1, b2, -, hlog, -⟩ | ⟨line, hlog, -⟩
  · rw [hlog]
  · rw [hlog]
    exact List.prefix_append _ _
  · rw [hlog]
    exact List.prefix_append _ _

/-- Settles O18. A step that is no reset is a chain of updates. -/
theorem eventLogOnlyGrows : Obligations.EventLogOnlyGrows := by
  unfold Obligations.EventLogOnlyGrows
  intro s t h hreset
  have hprefix : s.evlog <+: t.evlog := by
    rcases step_cases s t h with ⟨-, rfl⟩ | ⟨rest, hin, -⟩ | ⟨x, rest, -, -, hchain⟩
    · exact List.prefix_rfl
    · exact absurd (by rw [hin]; rfl) hreset
    · exact hchain.keeps (P := fun u => s.evlog <+: u.evlog) List.prefix_rfl fun _ _ hu u => hu.trans u.evlog_prefix
  obtain ⟨l, hl⟩ := hprefix
  exact ⟨l, hl.symm⟩

/-! ### The state after reset -/

/-- The default parameters are in their ranges. -/
theorem Config.default_ok : Config.default.Ok := by
  refine ⟨⟨?_, ?_⟩, Nat.le_add_left 1 _, ?_, ?_⟩
  all_goals norm_num [Config.default]

/-- Every open table size is in its range (R6). -/
theorem Config.tableSize_mem (i : Nat) : 1 ≤ Config.tableSize i ∧ Config.tableSize i ≤ 65536 := by
  have := (Config.tableSizeLessOne i).isLt
  unfold Config.tableSize
  omega

/-- A blank oscillator has the table size it was made with. -/
theorem Osc.blank_size (n : Nat) : (Osc.blank n).size = n := List.length_replicate

/-- Settles O13. -/
theorem resetStateIsInRange : Obligations.ResetStateIsInRange := by
  unfold Obligations.ResetStateIsInRange
  refine ⟨State.atReset_ok _ _ _ _ _ _ Config.default_ok (by decide) ?_, State.atReset_logOk _ _ _ _ _ _,
    State.atReset_freqsFinite _ _ _ _ _ _, State.reset_memory_wf⟩
  intro o ho
  obtain ⟨i, -, rfl⟩ := List.mem_map.mp ho
  rw [Osc.blank_size]
  exact Config.tableSize_mem i

/-- The oscillators after reset (R5, R290). -/
theorem State.reset_oscs : State.reset.oscs =
    [Osc.atReset 16383 0 (Osc.blank (Config.tableSize 0)).table,
      Osc.atReset 16383 1 (Osc.blank (Config.tableSize 1)).table] := rfl

/-- The table of a SINE or SAW oscillator depends on its size alone (R226). -/
theorem Osc.tableFor_congr {o o' : Osc} (fullScale : Nat) {kind : Kind} (amp dc : Rat) (hkind : kind ≠ .arb)
    (hsize : o'.size = o.size) : o'.tableFor fullScale kind amp dc = o.tableFor fullScale kind amp dc := by
  cases kind with
  | arb => exact absurd rfl hkind
  | sine => simp only [Osc.tableFor, hsize]
  | saw => simp only [Osc.tableFor, hsize]

/-- An oscillator after reset has its open size and the table of R226 (R290). -/
theorem Osc.atReset_blank (fullScale i n : Nat) {o : Osc} (h : o = Osc.atReset fullScale i (Osc.blank n).table) :
    o.size = n ∧ o.table = o.tableFor fullScale (if i % 2 = 0 then .sine else .saw) 1 0 := by
  have hsize : o.size = (Osc.blank n).size := by rw [h, Osc.atReset_size]
  have htable : o.table = (Osc.blank n).tableFor fullScale (if i % 2 = 0 then .sine else .saw) 1 0 := by
    rw [h, Osc.atReset_eq]
  have hkind : (if i % 2 = 0 then Kind.sine else .saw) ≠ .arb := by split <;> simp
  exact ⟨hsize.trans (Osc.blank_size n), by rw [htable, Osc.tableFor_congr _ _ _ hkind hsize]⟩

/-- Settles O12. The scalar elements are read off, the oscillators are `State.reset_oscs`. -/
theorem resetStateHoldsTheSpecsValues : Obligations.ResetStateHoldsTheSpecsValues := by
  unfold Obligations.ResetStateHoldsTheSpecsValues
  refine ⟨rfl, rfl, rfl, rfl, rfl, rfl, rfl, rfl, rfl, rfl, rfl, rfl, rfl, rfl, rfl, rfl, rfl, rfl, rfl, rfl,
    ?_, ?_, ?_, ?_, ?_⟩
  all_goals rw [State.reset_oscs]
  · simp [Osc.atReset_eq]
  · simp [Osc.atReset_eq]
  · simp [Osc.atReset_eq]
  · simp [Osc.atReset_eq]
  · intro i o ho
    match i with
    | 0 => exact Osc.atReset_blank 16383 0 _ (Option.some.inj ho).symm
    | 1 => exact Osc.atReset_blank 16383 1 _ (Option.some.inj ho).symm
    | i + 2 => simp at ho

end Sys2Proof.Machine
end

section
/-! The elements an instruction leaves as they are (spec/10_state.md section 2, column "written by"): what each shared
operation may write is said once, and an instruction is made of such operations. -/

namespace Sys2Proof.Machine

/-! ### The elements left by a part of a step -/

/-- `t` holds what `s` holds in every element that `W` does not let be written. -/
def State.Leaves (W : Element → Bool) (s t : State) : Prop := ∀ e, W e = false → e.Same s t

/-- What sending a frame writes may be written (R180, R263). -/
structure Sends (W : Element → Bool) : Prop where
  evlog : W .evlog = true
  lastFrame : W .lastFrame = true
  fault : W .fault = true

/-- What a response writes may be written (R21, R112). -/
structure Answers (W : Element → Bool) : Prop where
  pc : W .pc = true
  resp : W .resp = true

/-- The record `o'` in place of `o`, as oscillator `i`, differs only in elements that may be written. -/
structure Osc.Leaves (W : Element → Bool) (i : Nat) (o o' : Osc) : Prop where
  freq : W (.freq i) = false → o'.freq = o.freq
  amp : W (.amp i) = false → o'.amp = o.amp
  ph : W (.ph i) = false → o'.ph = o.ph
  dc : W (.dc i) = false → o'.dc = o.dc
  kind : W (.kind i) = false → o'.kind = o.kind
  run : W (.run i) = false → o'.run = o.run
  idx : W (.idx i) = false → o'.idx = o.idx
  bind : W (.bind i) = false → o'.bind = o.bind
  vmode : W (.vmode i) = false → o'.vmode = o.vmode
  table : W (.table i) = false → o'.table = o.table

/-- One record put in place of another that agrees with it in a field changes that field in no oscillator. -/
theorem map_getElem?_set {β : Type} {l : List Osc} {i j : Nat} {o o' : Osc} (f : Osc → β) (ho : l[i]? = some o)
    (hf : j = i → f o' = f o) : (l.set i o')[j]?.map f = l[j]?.map f := by
  by_cases hj : j = i
  · subst hj
    obtain ⟨hlt, -⟩ := List.getElem?_eq_some_iff.mp ho
    rw [List.getElem?_set_self hlt, ho, Option.map_some, Option.map_some, hf rfl]
  · rw [List.getElem?_set_ne (Ne.symm hj)]

section Parts

variable {W : Element → Bool} {s t u : State}

theorem Element.Same.refl (s : State) (e : Element) : e.Same s s := by
  cases e
  all_goals rfl

theorem Element.Same.trans {e : Element} (h : e.Same s t) (h' : e.Same t u) : e.Same s u := by
  cases e
  all_goals exact Eq.trans h' h

theorem Osc.Leaves.refl (W : Element → Bool) (i : Nat) (o : Osc) : Osc.Leaves W i o o := by
  constructor
  all_goals exact fun _ => rfl

theorem State.Leaves.refl (s : State) : s.Leaves W s := fun e _ => .refl s e

theorem State.Leaves.trans (h : s.Leaves W t) (h' : t.Leaves W u) : s.Leaves W u :=
  fun e he => (h e he).trans (h' e he)

/-! ### Elementary updates -/

theorem State.raise_leaves (s : State) (c : FaultCode) (hfault : W .fault = true) : s.Leaves W (s.raise c) := by
  unfold State.raise
  split
  · intro e
    cases e
    all_goals simp [Element.Same, State.channel, hfault]
  · exact .refl s

theorem State.respond_leaves (s : State) (status : Status) (value : RespValue) (h : Answers W) :
    s.Leaves W (s.respond status value) := by
  intro e
  cases e
  all_goals simp [Element.Same, State.channel, h.pc, h.resp]

theorem State.setFr_leaves (s : State) (f : Frame) (h0 : W .frRaw0 = true ∨ f.raw0 = s.fr.raw0)
    (h1 : W .frRaw1 = true ∨ f.raw1 = s.fr.raw1) (h2 : W .frRaw2 = true ∨ f.raw2 = s.fr.raw2)
    (hoff : W .frOff = true ∨ f.off = s.fr.off) : s.Leaves W (s.setFr f) := by
  intro e he
  have hne : ¬ W e = true := Bool.eq_false_iff.mp he
  cases e
  case frRaw0 => exact h0.resolve_left hne
  case frRaw1 => exact h1.resolve_left hne
  case frRaw2 => exact h2.resolve_left hne
  case frOff => exact hoff.resolve_left hne
  all_goals rfl

theorem State.setVref_leaves (s : State) (q : Rat) (h : W .vref = true) : s.Leaves W { s with vref := q } := by
  intro e
  cases e
  all_goals simp [Element.Same, State.channel, h]

theorem State.setIntrefEn_leaves (s : State) (v : Bool) (h : W .intrefEn = true) : s.Leaves W (s.setIntrefEn v) := by
  intro e
  cases e
  all_goals simp [Element.Same, State.channel, h]

theorem State.setPdMode_leaves (s : State) (m : BitVec 2) (h : W .pdMode = true) : s.Leaves W (s.setPdMode m) := by
  intro e
  cases e
  all_goals simp [Element.Same, State.channel, h]

theorem State.setLdacMode_leaves (s : State) (m : BitVec 2) (h : W .ldacMode = true) :
    s.Leaves W { s with ldacMode := m } := by
  intro e
  cases e
  all_goals simp [Element.Same, State.channel, h]

theorem State.setSyncAtt_leaves (s : State) (v : Bool) (h : W .syncAtt = true) : s.Leaves W (s.setSyncAtt v) := by
  intro e
  cases e
  all_goals simp [Element.Same, State.channel, h]

theorem State.setClrAtt_leaves (s : State) (v : Bool) (h : W .clrAtt = true) : s.Leaves W (s.setClrAtt v) := by
  intro e
  cases e
  all_goals simp [Element.Same, State.channel, h]

theorem State.pulse_leaves (s : State) (line : Line) (h : W .evlog = true) : s.Leaves W (s.pulse line) := by
  intro e
  cases e
  all_goals simp [Element.Same, State.channel, h]

theorem State.setEn_leaves (s : State) (slot : Slot) (v : Bool) (hen : W (.en slot) = true) :
    s.Leaves W (s.setEn slot v) := by
  intro e
  cases e
  case en other | gain other =>
    cases slot <;> cases other <;> simp [Element.Same, State.setEn, State.setChannel, State.channel, hen]
  all_goals simp [Element.Same]

theorem State.setGain_leaves (s : State) (slot : Slot) (g : Gain) (hgain : W (.gain slot) = true) :
    s.Leaves W (s.setGain slot g) := by
  intro e
  cases e
  case en other | gain other =>
    cases slot <;> cases other <;> simp [Element.Same, State.setGain, State.setChannel, State.channel, hgain]
  all_goals simp [Element.Same]

theorem State.exchange_leaves (s : State) (b0 b1 b2 : Byte) (h : Sends W) : s.Leaves W (s.exchange b0 b1 b2) := by
  have hdraw : s.Leaves W s.afterDraw := by
    intro e
    cases e
    all_goals simp [Element.Same, State.channel]
  refine hdraw.trans ?_
  unfold State.exchange
  split
  · intro e
    cases e
    all_goals simp [Element.Same, State.channel, h.evlog, h.lastFrame]
  · exact State.raise_leaves _ _ h.fault

/-- An oscillator's record is written where it differs. -/
theorem State.setOsc_leaves {i : Nat} {o o' : Osc} (ho : s.oscs[i]? = some o) (h : Osc.Leaves W i o o') :
    s.Leaves W (s.setOsc i o') := by
  intro e he
  cases e
  case freq j => exact map_getElem?_set Osc.freq ho (by rintro rfl; exact h.freq he)
  case amp j => exact map_getElem?_set Osc.amp ho (by rintro rfl; exact h.amp he)
  case ph j => exact map_getElem?_set Osc.ph ho (by rintro rfl; exact h.ph he)
  case dc j => exact map_getElem?_set Osc.dc ho (by rintro rfl; exact h.dc he)
  case kind j => exact map_getElem?_set Osc.kind ho (by rintro rfl; exact h.kind he)
  case run j => exact map_getElem?_set Osc.run ho (by rintro rfl; exact h.run he)
  case idx j => exact map_getElem?_set Osc.idx ho (by rintro rfl; exact h.idx he)
  case bind j => exact map_getElem?_set Osc.bind ho (by rintro rfl; exact h.bind he)
  case vmode j => exact map_getElem?_set Osc.vmode ho (by rintro rfl; exact h.vmode he)
  case table j => exact map_getElem?_set Osc.table ho (by rintro rfl; exact h.table he)
  all_goals rfl

/-! ### Shared operations -/

/-- A part of a step that is skipped in the fault state. -/
theorem State.Leaves.andThen {f : State → State} (h : s.Leaves W t) (hf : t.Leaves W (f t)) :
    s.Leaves W (t.andThen f) :=
  t.andThen_induction f (P := fun u => s.Leaves W u) h fun _ => h.trans hf

theorem State.Leaves.okFrame (h : s.Leaves W t) (ha : Answers W) : s.Leaves W t.okFrame :=
  h.andThen (t.respond_leaves _ _ ha)

theorem State.Leaves.ok (h : s.Leaves W t) (ha : Answers W) (value : RespValue) : s.Leaves W (t.ok value) :=
  h.trans (t.respond_leaves _ _ ha)

theorem State.write_leaves (s : State) (data : U16) (addr cmd : Nat) (cfgWrite : Bool) (h : Sends W) :
    s.Leaves W (s.write data addr cmd cfgWrite) := s.exchange_leaves _ _ _ h

theorem State.writeConfig_leaves (s : State) (data : U16) (cmd : BitVec 3) (h : Sends W) :
    s.Leaves W (s.writeConfig data cmd) := s.write_leaves _ _ _ _ h

theorem State.setOut_leaves (s : State) (slot : Slot) (code : U16) (au : Bool) (h : Sends W) :
    s.Leaves W (s.setOut slot code au) := s.write_leaves _ _ _ _ h

theorem State.withReal_leaves (w : U32) {f : Rat → State → State} (hfault : W .fault = true)
    (hf : ∀ q, s.Leaves W (f q s)) : s.Leaves W (s.withReal w f) := by
  unfold State.withReal
  split
  · exact s.raise_leaves _ hfault
  · exact hf _

theorem State.withCode_leaves (slot : Slot) (volts : Rat) {f : U16 → State → State} (hfault : W .fault = true)
    (hf : ∀ code, s.Leaves W (f code s)) : s.Leaves W (s.withCode slot volts f) := by
  unfold State.withCode
  split
  · exact s.raise_leaves _ hfault
  · exact hf _

theorem State.onSlot_leaves (slot : Slot) {f : State → State} (hen : W (.en slot) = true)
    (hf : s.Leaves W (f s)) : s.Leaves W (s.onSlot slot f) := by
  rcases s.onSlot_cases slot f with ⟨-, hpart⟩ | ⟨-, hpart⟩
  · rwa [hpart]
  · rw [hpart]
    exact s.setEn_leaves slot false hen

theorem State.gainBody_leaves (s : State) (slot : Slot) (m : GainMode) (h : Sends W) (hgain : W (.gain slot) = true) :
    s.Leaves W (s.gainBody slot m) :=
  (s.write_leaves _ _ _ _ h).andThen (State.setGain_leaves _ _ _ hgain)

theorem State.powerBody_leaves (s : State) (slot : Slot) (pd : BitVec 2) (en : Bool) (h : Sends W)
    (hen : W (.en slot) = true) : s.Leaves W (s.powerBody slot pd en) :=
  (s.writeConfig_leaves _ _ h).andThen (State.setEn_leaves _ _ _ hen)

theorem State.syncModeBody_leaves (s : State) (m : BitVec 2) (h : Sends W) (hmode : W .ldacMode = true) :
    s.Leaves W (s.syncModeBody m) :=
  (s.writeConfig_leaves _ _ h).andThen (State.setLdacMode_leaves _ m hmode)

theorem State.intrefBody_leaves (s : State) (v : Bool) (h : Sends W) (href : W .intrefEn = true)
    (hgain : ∀ slot, W (.gain slot) = true) (hen : ∀ slot, W (.en slot) = true) :
    s.Leaves W (s.intrefBody v) :=
  (((s.writeConfig_leaves _ _ h).andThen (State.setIntrefEn_leaves _ v href)).andThen
    (State.onSlot_leaves .a (hen .a) (State.gainBody_leaves _ .a _ h (hgain .a)))).andThen
    (State.onSlot_leaves .b (hen .b) (State.gainBody_leaves _ .b _ h (hgain .b)))

theorem State.defaultBody_leaves (s : State) (h : Sends W) (hpd : W .pdMode = true) (hmode : W .ldacMode = true)
    (href : W .intrefEn = true) (hgain : ∀ slot, W (.gain slot) = true) (hen : ∀ slot, W (.en slot) = true) :
    s.Leaves W s.defaultBody :=
  ((((s.setPdMode_leaves 1 hpd).andThen (State.onSlot_leaves .a (hen .a) (State.powerBody_leaves _ .a _ _ h (hen .a)))).andThen
    (State.onSlot_leaves .b (hen .b) (State.powerBody_leaves _ .b _ _ h (hen .b)))).andThen
    (State.syncModeBody_leaves _ 3 h hmode)).andThen (State.intrefBody_leaves _ true h href hgain hen)

/-! ### The tick -/

theorem State.forward_leaves (s : State) (o : Osc) (code : U16) (h : Sends W) (hen : W (.en o.bind) = true) :
    s.Leaves W (s.forward o code) := by
  refine State.onSlot_leaves _ hen ?_
  split
  · exact State.withCode_leaves _ _ h.fault fun _ => s.setOut_leaves _ _ _ h
  · exact s.setOut_leaves _ _ _ h

/-- One oscillator's part of a tick writes its accumulator, the flag of its slot, and what a frame writes (R239). -/
theorem State.tickOsc_leaves (s : State) (i : Nat) (h : Sends W) (hen : ∀ slot, W (.en slot) = true)
    (hidx : W (.idx i) = true) : s.Leaves W (s.tickOsc i) := by
  unfold State.tickOsc
  split
  case h_1 => exact .refl s
  case h_2 o ho =>
    split
    · split
      · exact .refl s
      · have hadvance : Osc.Leaves W i o (o.advance s.cfg.sps) := by
          constructor
          all_goals simp [Osc.advance, hidx]
        exact (State.setOsc_leaves ho hadvance).trans (State.forward_leaves _ _ _ h (hen _))
    · exact .refl s

theorem State.tickAll_leaves (s : State) (h : Sends W) (hen : ∀ slot, W (.en slot) = true)
    (hidx : ∀ i, W (.idx i) = true) : s.Leaves W s.tickAll :=
  List.foldlRecOn (List.range s.oscs.length) _ (motive := fun u : State => s.Leaves W u) (.refl s)
    fun u hu i _ => hu.andThen (u.tickOsc_leaves i h hen (hidx i))

/-! ### The shapes of an instruction -/

theorem State.control_leaves {f : State → State} (h : s.control f = .next t) (hf : s.Leaves W (f s)) :
    s.Leaves W t := by
  cases h
  exact State.Leaves.andThen (.refl s) hf

theorem State.channelWord_leaves {sel : Byte} {f : Slot → State → State} (h : s.channelWord sel f = .next t)
    (ha : Answers W) (hen : ∀ slot, slotOf sel = some slot → W (.en slot) = true)
    (hf : ∀ slot, slotOf sel = some slot → s.Leaves W (f slot s)) : s.Leaves W t := by
  refine State.control_leaves h ?_
  split
  case h_1 => exact s.respond_leaves _ _ ha
  case h_2 slot hslot =>
    split
    · exact hf slot hslot
    · exact (s.setEn_leaves slot false (hen slot hslot)).trans (State.respond_leaves _ _ _ ha)

theorem State.oscWord_leaves {sel : Byte} {f : Osc → State → State} (h : s.oscWord sel f = .next t) (ha : Answers W)
    (hf : ∀ o, s.oscs[sel.toNat]? = some o → s.Leaves W (f o s)) : s.Leaves W t := by
  refine State.control_leaves h ?_
  split
  case h_1 => exact s.respond_leaves _ _ ha
  case h_2 o ho => exact hf o ho

theorem State.withTick_leaves {f : State → State} (h : s.withTick f = .next t) (hs : Sends W)
    (hen : ∀ slot, W (.en slot) = true) (hidx : ∀ i, W (.idx i) = true) (hf : ∀ u : State, u.Leaves W (f u)) :
    s.Leaves W t := by
  rw [State.withTick_eq] at h
  split at h
  · cases h
  · cases h
    exact State.Leaves.andThen (.refl s) ((s.tickAll_leaves hs hen hidx).trans (hf _))

/-- An oscillator word that writes its oscillator's record and answers. -/
theorem State.setOsc_ok_leaves {i : Nat} {o o' : Osc} (ho : s.oscs[i]? = some o) (ha : Answers W)
    (h : Osc.Leaves W i o o') (value : RespValue) : s.Leaves W ((s.setOsc i o').ok value) :=
  (State.setOsc_leaves ho h).ok ha value

end Parts

end Sys2Proof.Machine
end

section
/-! The column "written by" of spec/10_state.md section 2, instruction by instruction, and the wavetable entries
(spec/20_memory.md R60, R61). -/

namespace Sys2Proof.Machine

section Instructions

variable {s t : State}

/-! ### The elements named for an instruction -/

/-- A word of a channel may clear the flag of the slot it names (R151). -/
theorem mayWrite_en_of_channelSelOf {i : Instr} {sel : Byte} {slot : Slot} (hsel : channelSelOf i = some sel)
    (hslot : slotOf sel = some slot) : mayWrite i (.en slot) = true := by
  have hnamed : ((channelSelOf i).bind slotOf == some slot) = true := by
    rw [hsel, Option.bind_some, hslot, beq_self_eq_true]
  exact Bool.or_eq_true_iff.mpr (.inl hnamed)

/-- CH_GAIN may write the factor of the slot it names (R154). -/
theorem mayWrite_gain_chGain {sel : Byte} {mode : U16} {slot : Slot} (hslot : slotOf sel = some slot) :
    mayWrite (.chGain sel mode) (.gain slot) = true := beq_iff_eq.mpr hslot

/-! ### The words, group by group -/

/-- The channel words write the flag of their slot, CH_GAIN its factor, and what a frame or a fault writes. -/
theorem exec_leaves_of_channelWord {i : Instr} {sel : Byte} (hsel : channelSelOf i = some sel)
    (h : exec i s = .next t) : s.Leaves (mayWrite i) t := by
  have hen : ∀ slot, slotOf sel = some slot → mayWrite i (.en slot) = true :=
    fun _ => mayWrite_en_of_channelSelOf hsel
  cases i <;> cases hsel
  case chSetout =>
    exact State.channelWord_leaves h ⟨rfl, rfl⟩ hen fun slot _ =>
      (s.setOut_leaves slot _ _ ⟨rfl, rfl, rfl⟩).okFrame ⟨rfl, rfl⟩
  case chSetv =>
    exact State.channelWord_leaves h ⟨rfl, rfl⟩ hen fun slot _ => State.withReal_leaves _ rfl fun _ =>
      State.withCode_leaves _ _ rfl fun _ => (s.setOut_leaves slot _ _ ⟨rfl, rfl, rfl⟩).okFrame ⟨rfl, rfl⟩
  case chGain =>
    refine State.channelWord_leaves h ⟨rfl, rfl⟩ hen fun slot hslot => ?_
    split
    · exact s.respond_leaves _ _ ⟨rfl, rfl⟩
    · exact (s.gainBody_leaves slot _ ⟨rfl, rfl, rfl⟩ (mayWrite_gain_chGain hslot)).okFrame ⟨rfl, rfl⟩
  case chUpdate =>
    exact State.channelWord_leaves h ⟨rfl, rfl⟩ hen fun _ _ =>
      (s.write_leaves _ _ _ _ ⟨rfl, rfl, rfl⟩).okFrame ⟨rfl, rfl⟩
  case chEn | chDis =>
    exact State.channelWord_leaves h ⟨rfl, rfl⟩ hen fun slot hslot =>
      (s.powerBody_leaves slot _ _ ⟨rfl, rfl, rfl⟩ (hen slot hslot)).okFrame ⟨rfl, rfl⟩
  case chD2v =>
    exact State.channelWord_leaves h ⟨rfl, rfl⟩ hen fun _ _ => s.respond_leaves _ _ ⟨rfl, rfl⟩
  case chV2d =>
    exact State.channelWord_leaves h ⟨rfl, rfl⟩ hen fun _ _ => State.withReal_leaves _ rfl fun _ =>
      State.withCode_leaves _ _ rfl fun _ => s.respond_leaves _ _ ⟨rfl, rfl⟩

/-- The oscillator words write fields of the record they select, and their response. -/
theorem exec_leaves_of_oscWord {i : Instr} {sel : Byte} (hsel : oscSelOf i = some sel) (h : exec i s = .next t) :
    s.Leaves (mayWrite i) t := by
  have hself : ∀ {P : Prop}, (sel.toNat == sel.toNat) = false → P := fun hne => absurd rfl (ne_of_beq_false hne)
  have hanswers : Answers (mayWrite i) := by
    cases i <;> cases hsel
    all_goals exact ⟨rfl, rfl⟩
  have hrespond : ∀ status value, s.Leaves (mayWrite i) (s.respond status value) :=
    fun status value => s.respond_leaves status value hanswers
  have hrecord : ∀ {o o' : Osc}, s.oscs[sel.toNat]? = some o → Osc.Leaves (mayWrite i) sel.toNat o o' →
      s.Leaves (mayWrite i) ((s.setOsc sel.toNat o').ok .none) :=
    fun ho hosc => (State.setOsc_leaves ho hosc).ok hanswers _
  cases i <;> cases hsel
  case oscEn | oscDis =>
    refine State.oscWord_leaves h hanswers fun o ho => hrecord ho ?_
    exact { Osc.Leaves.refl _ _ o with run := hself }
  case oscFreq =>
    refine State.oscWord_leaves h hanswers fun o ho => State.withReal_leaves _ rfl fun _ => hrecord ho ?_
    exact { Osc.Leaves.refl _ _ o with freq := hself }
  case oscAmp =>
    refine State.oscWord_leaves h hanswers fun o ho => State.withReal_leaves _ rfl fun _ => hrecord ho ?_
    rw [Osc.regen_eq_tableFor]
    exact { Osc.Leaves.refl _ _ o with
      amp := hself
      table := hself }
  case oscPhase =>
    refine State.oscWord_leaves h hanswers fun o ho => State.withReal_leaves _ rfl fun _ => hrecord ho ?_
    exact { Osc.Leaves.refl _ _ o with ph := hself }
  case oscDc =>
    refine State.oscWord_leaves h hanswers fun o ho => State.withReal_leaves _ rfl fun _ => hrecord ho ?_
    rw [Osc.regen_eq_tableFor]
    exact { Osc.Leaves.refl _ _ o with
      dc := hself
      table := hself }
  case oscKind =>
    refine State.oscWord_leaves h hanswers fun o ho => ?_
    split
    · exact hrespond _ _
    · refine hrecord ho ?_
      rw [Osc.regen_eq_tableFor]
      exact { Osc.Leaves.refl _ _ o with
        kind := hself
        table := hself }
  case oscTwr =>
    refine State.oscWord_leaves h hanswers fun o ho => ?_
    split
    · exact hrecord ho { Osc.Leaves.refl _ _ o with table := hself }
    · exact hrespond _ _
  case oscTrd =>
    refine State.oscWord_leaves h hanswers fun o ho => ?_
    split
    · exact hrespond _ _
    · exact hrespond _ _
  case oscBind =>
    refine State.oscWord_leaves h hanswers fun o ho => ?_
    split
    · exact hrespond _ _
    · exact hrecord ho { Osc.Leaves.refl _ _ o with bind := hself }
  case oscVmode =>
    refine State.oscWord_leaves h hanswers fun o ho => hrecord ho ?_
    exact { Osc.Leaves.refl _ _ o with vmode := hself }
  case oscIdx => exact State.oscWord_leaves h hanswers fun _ _ => hrespond _ _

/-- Every instruction leaves the elements it is not named for. -/
theorem exec_leaves {i : Instr} (h : exec i s = .next t) : s.Leaves (mayWrite i) t := by
  cases i
  case chSetout | chSetv | chGain | chUpdate | chEn | chDis | chD2v | chV2d => exact exec_leaves_of_channelWord rfl h
  case oscEn | oscDis | oscFreq | oscAmp | oscPhase | oscDc | oscKind | oscTwr | oscTrd | oscBind | oscVmode | oscIdx =>
    exact exec_leaves_of_oscWord rfl h
  case frClear | frLoad =>
    refine State.control_leaves h (State.Leaves.ok (s.setFr_leaves _ ?_ ?_ ?_ ?_) ⟨rfl, rfl⟩ _)
    exacts [.inl rfl, .inl rfl, .inl rfl, .inr rfl]
  case frSetoff =>
    refine State.control_leaves h (State.Leaves.ok (s.setFr_leaves _ ?_ ?_ ?_ ?_) ⟨rfl, rfl⟩ _)
    exacts [.inr rfl, .inr rfl, .inr rfl, .inl rfl]
  case packData =>
    refine State.control_leaves h (State.Leaves.ok (s.setFr_leaves _ ?_ ?_ ?_ ?_) ⟨rfl, rfl⟩ _)
    exacts [.inr rfl, .inl rfl, .inl rfl, .inr rfl]
  case packAddr | packCmd =>
    refine State.control_leaves h (State.Leaves.ok (s.setFr_leaves _ ?_ ?_ ?_ ?_) ⟨rfl, rfl⟩ _)
    exacts [.inl rfl, .inr rfl, .inr rfl, .inr rfl]
  case unpackData | unpackAddr | unpackCmd | frRead | devLast =>
    exact State.control_leaves h (s.respond_leaves _ _ ⟨rfl, rfl⟩)
  case devInit | devDefault =>
    exact State.control_leaves h
      ((s.defaultBody_leaves ⟨rfl, rfl, rfl⟩ rfl rfl rfl (fun _ => rfl) fun _ => rfl).okFrame ⟨rfl, rfl⟩)
  case devVref =>
    exact State.control_leaves h (State.withReal_leaves _ rfl fun _ => (s.setVref_leaves _ rfl).ok ⟨rfl, rfl⟩ _)
  case devIntref =>
    exact State.control_leaves h
      ((s.intrefBody_leaves _ ⟨rfl, rfl, rfl⟩ rfl (fun _ => rfl) fun _ => rfl).okFrame ⟨rfl, rfl⟩)
  case devAttSync | devDetSync => exact State.control_leaves h ((s.setSyncAtt_leaves _ rfl).ok ⟨rfl, rfl⟩ _)
  case devAttClr | devDetClr => exact State.control_leaves h ((s.setClrAtt_leaves _ rfl).ok ⟨rfl, rfl⟩ _)
  case devSyncmode => exact State.control_leaves h ((s.syncModeBody_leaves _ ⟨rfl, rfl, rfl⟩ rfl).okFrame ⟨rfl, rfl⟩)
  case devLdacPulse | devClrPulse =>
    refine State.control_leaves h (State.Leaves.ok ?_ ⟨rfl, rfl⟩ _)
    split
    · exact s.pulse_leaves _ rfl
    · exact .refl s
  case devPdmode => exact State.control_leaves h ((s.setPdMode_leaves _ rfl).ok ⟨rfl, rfl⟩ _)
  case devRstInput | devRstFactory =>
    exact State.control_leaves h ((s.writeConfig_leaves _ _ ⟨rfl, rfl, rfl⟩).okFrame ⟨rfl, rfl⟩)
  case devWrite =>
    exact State.control_leaves h ((s.write_leaves _ _ _ _ ⟨rfl, rfl, rfl⟩).okFrame ⟨rfl, rfl⟩)
  case tick =>
    change execTick s = .next t at h
    exact State.withTick_leaves h ⟨rfl, rfl, rfl⟩ (fun _ => rfl) (fun _ => rfl)
      fun u => State.Leaves.andThen (.refl u) (u.respond_leaves _ _ ⟨rfl, rfl⟩)
  all_goals exact State.control_leaves h (s.exchange_leaves _ _ _ ⟨rfl, rfl, rfl⟩)

end Instructions

/-- No update writes the control stream (R74). -/
theorem State.Update.stream_eq {s t : State} (u : State.Update s t) : t.stream = s.stream := by
  cases u
  case raise | en | gain => simp
  case exchange =>
    unfold State.exchange
    split
    · rfl
    · exact State.raise_stream _ _
  all_goals rfl

/-- Settles O20. The elements are gone through in `exec_leaves`; the parameters, the stream and the inputs no update
writes. -/
theorem onlyTheNamedWritersWriteAnElement : Obligations.OnlyTheNamedWritersWriteAnElement := by
  unfold Obligations.OnlyTheNamedWritersWriteAnElement
  intro i s t h
  have hchain := exec_updates i s t h
  exact ⟨exec_leaves h,
    hchain.keeps (P := fun u => u.params = s.params) rfl fun _ _ hu u => u.params_eq.trans hu,
    hchain.keeps (P := fun u => u.stream = s.stream) rfl fun _ _ hu u => u.stream_eq.trans hu,
    hchain.cfg_inputs.2⟩

/-! ### Entries of the wavetables -/

/-- An entry is read from the table alone. -/
theorem State.entry_eq (s : State) (o j : Nat) :
    s.entry o j = (s.oscs[o]?.map Osc.table).bind fun table => memRead table j := by
  rw [State.entry, Option.bind_map]
  rfl

/-- An instruction that is not named for a table changes none of its entries. -/
theorem exec_entry {i : Instr} {s t : State} {o : Nat} (h : exec i s = .next t)
    (hw : mayWrite i (.table o) = false) (j : Nat) : t.entry o j = s.entry o j := by
  have htable : t.oscs[o]?.map Osc.table = s.oscs[o]?.map Osc.table := exec_leaves h _ hw
  rw [t.entry_eq, s.entry_eq, htable]

/-- OSC_TWR changes no other entry of the table it writes (R61, R233). -/
theorem exec_oscTwr_entry_other {sel : Byte} {code : U16} {index : U32} {s t : State} {j : Nat}
    (h : exec (.oscTwr sel code index) s = .next t) (hj : index.toNat ≠ j) :
    t.entry sel.toNat j = s.entry sel.toNat j := by
  change s.oscWord sel _ = _ at h
  cases h
  refine s.andThen_induction _ (P := fun t => t.entry sel.toNat j = s.entry sel.toNat j) rfl fun _ => ?_
  split
  case h_1 => rfl
  case h_2 o ho =>
    dsimp only
    split
    · obtain ⟨hlt, -⟩ := List.getElem?_eq_some_iff.mp ho
      have hset : (s.oscs.set sel.toNat { o with table := memWrite o.table index.toNat code })[sel.toNat]? = some _ :=
        List.getElem?_set_self hlt
      rw [State.entry_of_getElem? ho j, State.entry_of_getElem? hset j, memRead_memWrite_other _ _ _ _ hj]
    · rfl

/-- Settles O21. Another table than the one OSC_TWR selects it is not named for. -/
theorem wavetableFrame : Obligations.WavetableFrame := by
  unfold Obligations.WavetableFrame
  refine ⟨fun i s t o j h hw => exec_entry h hw j, fun sel code index s t o j h hne => ?_⟩
  by_cases ho : sel.toNat = o
  · subst ho
    exact exec_oscTwr_entry_other h fun hj => hne (by rw [hj])
  · exact exec_entry h (beq_false_of_ne ho) j

end Sys2Proof.Machine
end

section
/-! The response of a control word and `pc` (spec/10_state.md R21, spec/30_encoding.md R112, spec/60_exceptions.md
R266): every part of a step but the response leaves both, and the response comes last, if no fault came before it. -/

namespace Sys2Proof.Machine

/-- Every element but what a response writes. -/
def exceptResponse : Element → Bool
  | .pc => false
  | .resp => false
  | _ => true

/-- Every element but `FAULT` and what a response writes. -/
def exceptResponseAndFault : Element → Bool
  | .fault => false
  | e => exceptResponse e

/-- `t` is what a control word makes of `s`: answered and one word on, or faulted with neither (R21, R112, R266). -/
def State.Ends (s t : State) : Prop :=
  (t.fault = .none → t.pc = s.pc + 1 ∧ t.resp.isSome) ∧ (t.fault ≠ .none → t.pc = s.pc ∧ t.resp = s.resp)

section Endings

variable {s t u : State}

/-- A word ends with its response, no part before it having faulted. -/
theorem State.Leaves.respond_ends (h : s.Leaves exceptResponseAndFault u) (hf : s.fault = .none) (status : Status)
    (value : RespValue) : s.Ends (u.respond status value) := by
  have hpc : u.pc = s.pc := h .pc rfl
  have hfault : u.fault = s.fault := h .fault rfl
  exact ⟨fun _ => ⟨congrArg (· + 1) hpc, rfl⟩, fun hne => absurd (hfault.trans hf) hne⟩

/-- A word that ends in a fault produces no response. -/
theorem State.Leaves.fault_ends (h : s.Leaves exceptResponse u) (hf : u.fault ≠ .none) : s.Ends u :=
  ⟨fun hnone => absurd hnone hf, fun _ => ⟨h .pc rfl, h .resp rfl⟩⟩

/-- A response that is skipped in the fault state ends a word, whatever its parts before did to `FAULT`. -/
theorem State.Leaves.andThen_respond_ends (h : s.Leaves exceptResponse u) (status : State → Status)
    (value : State → RespValue) : s.Ends (u.andThen fun u => u.respond (status u) (value u)) := by
  by_cases hf : u.fault = .none
  · have hpc : u.pc = s.pc := h .pc rfl
    rw [u.andThen_of_none _ hf]
    exact ⟨fun _ => ⟨congrArg (· + 1) hpc, rfl⟩, fun hne => absurd hf hne⟩
  · rw [u.andThen_of_fault _ hf]
    exact h.fault_ends hf

/-- The response that returns the frame sent. -/
theorem State.Leaves.okFrame_ends (h : s.Leaves exceptResponse u) : s.Ends u.okFrame :=
  h.andThen_respond_ends _ _

/-- A fault ends a word. -/
theorem State.raise_ends (hf : s.fault = .none) {c : FaultCode} (hc : c ≠ .none) : s.Ends (s.raise c) :=
  (s.raise_leaves c rfl).fault_ends (by rwa [s.raise_of_none c hf])

/-- A response alone. -/
theorem State.respond_ends (hf : s.fault = .none) (status : Status) (value : RespValue) :
    s.Ends (s.respond status value) := (State.Leaves.refl s).respond_ends hf status value

theorem State.withReal_ends {w : U32} {f : Rat → State → State} (hf : s.fault = .none) (h : ∀ q, s.Ends (f q s)) :
    s.Ends (s.withReal w f) := by
  unfold State.withReal
  split
  · exact State.raise_ends hf (by decide)
  · exact h _

theorem State.withCode_ends {slot : Slot} {volts : Rat} {f : U16 → State → State} (hf : s.fault = .none)
    (h : ∀ code, s.Ends (f code s)) : s.Ends (s.withCode slot volts f) := by
  unfold State.withCode
  split
  · exact State.raise_ends hf (by decide)
  · exact h _

theorem State.control_ends {f : State → State} (h : s.control f = .next t) (hf : s.fault = .none)
    (hends : s.Ends (f s)) : s.Ends t := by
  rw [s.control_of_none f hf] at h
  cases h
  exact hends

theorem State.channelWord_ends {sel : Byte} {f : Slot → State → State} (h : s.channelWord sel f = .next t)
    (hf : s.fault = .none) (hends : ∀ slot, s.Ends (f slot s)) : s.Ends t := by
  refine State.control_ends h hf ?_
  split
  · exact State.respond_ends hf _ _
  · split
    · exact hends _
    · exact (s.setEn_leaves _ false rfl).respond_ends hf _ _

theorem State.oscWord_ends {sel : Byte} {f : Osc → State → State} (h : s.oscWord sel f = .next t)
    (hf : s.fault = .none) (hends : ∀ o, s.oscs[sel.toNat]? = some o → s.Ends (f o s)) : s.Ends t := by
  refine State.control_ends h hf ?_
  split
  case h_1 => exact State.respond_ends hf _ _
  case h_2 o ho => exact hends o ho

/-- A word that writes its oscillator's record ends with its response. -/
theorem State.setOsc_ok_ends {i : Nat} {o : Osc} (ho : s.oscs[i]? = some o) (hf : s.fault = .none) (o' : Osc)
    (value : RespValue) : s.Ends ((s.setOsc i o').ok value) := by
  have hany : Osc.Leaves exceptResponseAndFault i o o' := by
    constructor
    all_goals exact nofun
  exact (State.setOsc_leaves ho hany).respond_ends hf _ _

/-- A tick writes neither `pc` nor `resp` (R239). -/
theorem State.withTick_id_leaves (h : s.withTick id = .next t) : s.Leaves exceptResponse t :=
  State.withTick_leaves h ⟨rfl, rfl, rfl⟩ (fun _ => rfl) (fun _ => rfl) fun u => .refl u

end Endings

/-- Settles O10. The step is the tick after its input is taken; no update writes the stream. -/
theorem tickInputKeepsPcAndResponse : Obligations.TickInputKeepsPcAndResponse := by
  unfold Obligations.TickInputKeepsPcAndResponse
  intro s t rest hin h
  rw [step_of_tick hin] at h
  have hleaves := State.withTick_id_leaves h
  have hchain := State.withTick_updates _ t id (fun _ => .refl) h
  exact ⟨hleaves .pc rfl, hleaves .resp rfl,
    hchain.keeps (P := fun u => u.stream = s.stream) rfl fun _ _ hu u => u.stream_eq.trans hu⟩

section Instructions

variable {s t : State}

/-- A channel word answers or faults. -/
theorem exec_ends_of_channelWord {i : Instr} {sel : Byte} (hsel : channelSelOf i = some sel) (hf : s.fault = .none)
    (h : exec i s = .next t) : s.Ends t := by
  cases i <;> cases hsel
  case chSetout =>
    exact State.channelWord_ends h hf fun slot => (s.setOut_leaves slot _ _ ⟨rfl, rfl, rfl⟩).okFrame_ends
  case chSetv =>
    exact State.channelWord_ends h hf fun slot => State.withReal_ends hf fun _ => State.withCode_ends hf fun _ =>
      (s.setOut_leaves slot _ _ ⟨rfl, rfl, rfl⟩).okFrame_ends
  case chGain =>
    refine State.channelWord_ends h hf fun slot => ?_
    split
    · exact State.respond_ends hf _ _
    · exact (s.gainBody_leaves slot _ ⟨rfl, rfl, rfl⟩ rfl).okFrame_ends
  case chUpdate => exact State.channelWord_ends h hf fun _ => (s.write_leaves _ _ _ _ ⟨rfl, rfl, rfl⟩).okFrame_ends
  case chEn | chDis =>
    exact State.channelWord_ends h hf fun slot => (s.powerBody_leaves slot _ _ ⟨rfl, rfl, rfl⟩ rfl).okFrame_ends
  case chD2v => exact State.channelWord_ends h hf fun _ => State.respond_ends hf _ _
  case chV2d =>
    exact State.channelWord_ends h hf fun _ => State.withReal_ends hf fun _ => State.withCode_ends hf fun _ =>
      State.respond_ends hf _ _

/-- An oscillator word answers or faults. -/
theorem exec_ends_of_oscWord {i : Instr} {sel : Byte} (hsel : oscSelOf i = some sel) (hf : s.fault = .none)
    (h : exec i s = .next t) : s.Ends t := by
  cases i <;> cases hsel
  case oscEn | oscDis | oscVmode => exact State.oscWord_ends h hf fun _ ho => State.setOsc_ok_ends ho hf _ _
  case oscFreq | oscAmp | oscPhase | oscDc =>
    exact State.oscWord_ends h hf fun _ ho => State.withReal_ends hf fun _ => State.setOsc_ok_ends ho hf _ _
  case oscKind | oscBind =>
    refine State.oscWord_ends h hf fun _ ho => ?_
    split
    · exact State.respond_ends hf _ _
    · exact State.setOsc_ok_ends ho hf _ _
  case oscTwr =>
    refine State.oscWord_ends h hf fun _ ho => ?_
    split
    · exact State.setOsc_ok_ends ho hf _ _
    · exact State.respond_ends hf _ _
  case oscTrd =>
    refine State.oscWord_ends h hf fun _ _ => ?_
    split
    · exact State.respond_ends hf _ _
    · exact State.respond_ends hf _ _
  case oscIdx => exact State.oscWord_ends h hf fun _ _ => State.respond_ends hf _ _

/-- Every control word answers or faults. -/
theorem exec_ends {i : Instr} (hword : isWireFrame i = false) (hf : s.fault = .none) (h : exec i s = .next t) :
    s.Ends t := by
  cases i
  case chSetout | chSetv | chGain | chUpdate | chEn | chDis | chD2v | chV2d => exact exec_ends_of_channelWord rfl hf h
  case oscEn | oscDis | oscFreq | oscAmp | oscPhase | oscDc | oscKind | oscTwr | oscTrd | oscBind | oscVmode | oscIdx =>
    exact exec_ends_of_oscWord rfl hf h
  case frClear | frLoad | frSetoff | packData | packAddr | packCmd =>
    exact State.control_ends h hf
      ((s.setFr_leaves _ (.inl rfl) (.inl rfl) (.inl rfl) (.inl rfl)).respond_ends hf _ _)
  case unpackData | unpackAddr | unpackCmd | frRead | devLast =>
    exact State.control_ends h hf (State.respond_ends hf _ _)
  case devInit | devDefault =>
    exact State.control_ends h hf
      (s.defaultBody_leaves ⟨rfl, rfl, rfl⟩ rfl rfl rfl (fun _ => rfl) fun _ => rfl).okFrame_ends
  case devVref =>
    exact State.control_ends h hf (State.withReal_ends hf fun _ => (s.setVref_leaves _ rfl).respond_ends hf _ _)
  case devIntref =>
    exact State.control_ends h hf (s.intrefBody_leaves _ ⟨rfl, rfl, rfl⟩ rfl (fun _ => rfl) fun _ => rfl).okFrame_ends
  case devAttSync | devDetSync => exact State.control_ends h hf ((s.setSyncAtt_leaves _ rfl).respond_ends hf _ _)
  case devAttClr | devDetClr => exact State.control_ends h hf ((s.setClrAtt_leaves _ rfl).respond_ends hf _ _)
  case devSyncmode => exact State.control_ends h hf (s.syncModeBody_leaves _ ⟨rfl, rfl, rfl⟩ rfl).okFrame_ends
  case devLdacPulse | devClrPulse =>
    refine State.control_ends h hf (State.Leaves.respond_ends ?_ hf _ _)
    split
    · exact s.pulse_leaves _ rfl
    · exact .refl s
  case devPdmode => exact State.control_ends h hf ((s.setPdMode_leaves _ rfl).respond_ends hf _ _)
  case devRstInput | devRstFactory =>
    exact State.control_ends h hf (s.writeConfig_leaves _ _ ⟨rfl, rfl, rfl⟩).okFrame_ends
  case devWrite => exact State.control_ends h hf (s.write_leaves _ _ _ _ ⟨rfl, rfl, rfl⟩).okFrame_ends
  case tick =>
    change execTick s = .next t at h
    rw [execTick, State.withTick_eq] at h
    split at h
    · cases h
    · cases h
      rw [s.andThen_of_none _ hf]
      exact (s.tickAll_leaves ⟨rfl, rfl, rfl⟩ (fun _ => rfl) fun _ => rfl).andThen_respond_ends _ _
  all_goals cases hword

/-- A wire frame is not answered (log entry 10). -/
theorem exec_leaves_response_of_wireFrame {i : Instr} (hframe : isWireFrame i = true) (h : exec i s = .next t) :
    t.pc = s.pc ∧ t.resp = s.resp := by
  have hpc : mayWrite i .pc = false := congrArg not hframe
  have hresp : mayWrite i .resp = false := congrArg not hframe
  exact ⟨exec_leaves h .pc hpc, exec_leaves h .resp hresp⟩

end Instructions

/-- Settles O19. -/
theorem controlWordsAdvancePcUnlessTheyFault : Obligations.ControlWordsAdvancePcUnlessTheyFault := by
  unfold Obligations.ControlWordsAdvancePcUnlessTheyFault
  intro i s t hf h
  exact ⟨fun hword => (exec_ends hword hf h).1, fun hword => (exec_ends hword hf h).2,
    fun hframe => exec_leaves_response_of_wireFrame hframe h⟩

end Sys2Proof.Machine
end

section
/-! The conversions between volts and codes (spec/41_channel.md section 3) and the rounding they go through
(spec/00_scope.md R12 to R14). -/

namespace Sys2Proof.Machine

/-! ### Rounding to the nearest integer (R12) -/

/-- `round_ha` of a rational within less than one half of an integer is that integer. -/
theorem roundHa_eq_of_abs_lt {q : Rat} {n : Int} (h : |q - n| < 1 / 2) : roundHa q = n := by
  have hclose := roundHa_close q
  rw [abs_lt] at h
  rw [abs_le] at hclose
  have hlow : (n : Rat) - 1 < roundHa q := by linarith
  have hhigh : (roundHa q : Rat) < n + 1 := by linarith
  have hlow : n - 1 < roundHa q := by exact_mod_cast hlow
  have hhigh : roundHa q < n + 1 := by exact_mod_cast hhigh
  omega

/-! ### A voltage near the voltage of a code (R158, R160) -/

/-- A voltage whose unrounded code is within less than one half of a code up to full scale converts to that code. -/
theorem voltsToCode_of_close {fullScale : Nat} {vref volts : Rat} {gain : Gain} {c : U16} (hvref : 0 < vref)
    (hc : c.toNat ≤ fullScale) (hclose : |(|volts| * fullScale / (vref * gain.factor)) - c.toNat| < 1 / 2) :
    voltsToCode fullScale vref gain volts = some c := by
  have hpos : 0 < vref * gain.factor := mul_pos hvref gain.factor_pos
  have hround : roundHa (|volts| * fullScale / (vref * gain.factor)) = (c.toNat : Int) :=
    roundHa_eq_of_abs_lt (by exact_mod_cast hclose)
  have hmin : min (c.toNat : Int) fullScale = c.toNat := min_eq_left (by exact_mod_cast hc)
  rw [voltsToCode, if_neg hpos.ne', hround, hmin, Int.toNat_natCast, BitVec.ofNat_toNat, BitVec.setWidth_eq]

/-- The voltage of a code, converted back but not rounded, is the code. -/
theorem codeToVolts_mul_div {fullScale : Nat} {vref : Rat} (gain : Gain) (c : U16) (hfs : 1 ≤ fullScale)
    (hvref : 0 < vref) : codeToVolts fullScale vref gain c * fullScale / (vref * gain.factor) = c.toNat := by
  have hfs : (0 : Rat) < fullScale := by exact_mod_cast hfs
  have hgain := gain.factor_pos
  unfold codeToVolts
  field_simp

/-- The voltage of a code is not negative. -/
theorem codeToVolts_nonneg (fullScale : Nat) {vref : Rat} (gain : Gain) (c : U16) (hvref : 0 ≤ vref) :
    0 ≤ codeToVolts fullScale vref gain c := by
  unfold codeToVolts
  positivity

/-- Settles O34. Unrounded, the conversion gives the code itself. -/
theorem voltsToCodeInvertsCodeToVolts : Obligations.VoltsToCodeInvertsCodeToVolts := by
  unfold Obligations.VoltsToCodeInvertsCodeToVolts
  intro fullScale vref gain c hfs hvref hc
  change voltsToCode fullScale vref gain (codeToVolts fullScale vref gain c) = some c
  refine voltsToCode_of_close hvref hc ?_
  rw [abs_of_nonneg (codeToVolts_nonneg fullScale gain c hvref.le), codeToVolts_mul_div gain c hfs hvref]
  norm_num

/-! ### Through binary32 (R14, R159) -/

/-- A voltage that differs from a code's by at most its 2^24th part converts to that code: a code is below `2^16`. -/
theorem voltsToCode_of_relative_error {fullScale : Nat} {vref r : Rat} {gain : Gain} {c : U16} (hfs : 1 ≤ fullScale)
    (hvref : 0 < vref) (hc : c.toNat ≤ fullScale)
    (hr : |r - codeToVolts fullScale vref gain c| ≤ codeToVolts fullScale vref gain c / 2 ^ 24) :
    voltsToCode fullScale vref gain r = some c := by
  have hvolts := codeToVolts_nonneg fullScale gain c hvref.le
  have hexact := codeToVolts_mul_div gain c hfs hvref
  generalize codeToVolts fullScale vref gain c = volts at hr hvolts hexact
  have hr0 : 0 ≤ r := by
    rw [abs_le] at hr
    linarith
  have hscale : 0 ≤ fullScale / (vref * gain.factor) := by
    have := gain.factor_pos
    positivity
  have hcode : (c.toNat : Rat) < 2 ^ 16 := by exact_mod_cast c.isLt
  refine voltsToCode_of_close hvref hc ?_
  calc |(|r| * fullScale / (vref * gain.factor)) - c.toNat|
      = |r - volts| * (fullScale / (vref * gain.factor)) := by
        rw [← hexact, abs_of_nonneg hr0, mul_div_assoc, mul_div_assoc, ← sub_mul, abs_mul, abs_of_nonneg hscale]
    _ ≤ volts / 2 ^ 24 * (fullScale / (vref * gain.factor)) := mul_le_mul_of_nonneg_right hr hscale
    _ = c.toNat / 2 ^ 24 := by rw [← hexact]; ring
    _ < 1 / 2 := by linarith

/-- The binary32 rounding of 0 or of a voltage of the normal range differs from it by at most its 2^24th part. -/
theorem f32_rne32_close {volts : Rat} (h0 : 0 ≤ volts) (hmax : volts ≤ (2 - 1 / 2 ^ 23) * 2 ^ 127)
    (hnormal : volts = 0 ∨ 1 / 2 ^ 126 ≤ volts) :
    ∃ r, f32 (rne32 volts) = some r ∧ |r - volts| ≤ volts / 2 ^ 24 := by
  have habs : |volts| = volts := abs_of_nonneg h0
  rcases hnormal with rfl | hnormal
  · exact ⟨0, f32_rne32_zero, by simp⟩
  · obtain ⟨r, hr, -, -, herror⟩ := rne32RoundsToNearestEven volts (by rwa [habs])
    rw [habs] at herror
    exact ⟨r, hr, herror hnormal⟩

/-- In a state in range the voltage of a code is at most 10 (R24, R32). -/
theorem codeToVolts_le {fullScale : Nat} {vref : Rat} (gain : Gain) {c : U16} (hfs : 1 ≤ fullScale) (hvref : 0 ≤ vref)
    (hmax : vref ≤ 5) (hc : c.toNat ≤ fullScale) : codeToVolts fullScale vref gain c ≤ 10 := by
  have hfs : (0 : Rat) < fullScale := by exact_mod_cast hfs
  have hc : (c.toNat : Rat) ≤ fullScale := by exact_mod_cast hc
  have hgain : (gain.factor : Rat) ≤ 2 := by cases gain <;> norm_num [Gain.factor]
  unfold codeToVolts
  rw [div_le_iff₀ hfs]
  calc (c.toNat : Rat) * vref * gain.factor ≤ fullScale * 5 * 2 := by gcongr
    _ = 10 * fullScale := by ring

/-- Settles O35. The rounding's error is too small to reach another code. -/
theorem portRoundTripReturnsTheCode : Obligations.PortRoundTripReturnsTheCode := by
  unfold Obligations.PortRoundTripReturnsTheCode
  intro sel slot s c volts hf hok hvref hsel hc hvolts hrange
  obtain ⟨⟨⟨hfs, -⟩, -⟩, ⟨-, hvmax⟩, -⟩ := hok
  change volts = codeToVolts s.cfg.fullScale s.vref (s.channel slot).gain c at hvolts
  have h0 := codeToVolts_nonneg s.cfg.fullScale (s.channel slot).gain c hvref.le
  have h10 := codeToVolts_le (s.channel slot).gain hfs hvref.le hvmax hc
  rw [← hvolts] at h0 h10
  obtain ⟨r, hr, herror⟩ := f32_rne32_close h0 (h10.trans (by norm_num)) (hrange.imp_right And.left)
  have hcode := voltsToCode_of_relative_error (gain := (s.channel slot).gain) hfs hvref hc (hvolts ▸ herror)
  have hd2v : exec (.chD2v sel c) s =
      .next (s.answered .ok (.binary32 (rne32 (codeToVolts s.cfg.fullScale s.vref (s.channel slot).gain c)))) :=
    s.channelWord_of_selects sel slot _ hf hsel
  have hv2d : exec (.chV2d sel (rne32 volts)) s = .next (s.withReal (rne32 volts) fun q s =>
      s.withCode slot q fun code s => s.ok (.u16 code)) := s.channelWord_of_selects sel slot _ hf hsel
  refine ⟨rne32 volts, hvolts ▸ hd2v, ?_⟩
  rw [hv2d, s.withReal_of_some _ r _ hr]
  simp only [State.withCode, hcode, State.ok_eq]

/-! ### Values of the format (R13, R14) -/

/-- Equal magnitudes have one exponent (fields 0 and 1 standing for the same one): a larger exponent carries the hidden
1, so that its significand needs more than 24 bits in the smaller unit. -/
theorem wordMagnitude_exponent_le {w v : U32} (h : wordMagnitude w = wordMagnitude v) :
    max (expField v) 1 ≤ max (expField w) 1 := by
  by_contra hlt
  obtain ⟨k, hk⟩ := Nat.exists_eq_add_of_lt (not_le.mp hlt)
  have hunit : (0 : Rat) < 2 ^ ((max (expField w) 1 : Nat) - 150 : Int) := by positivity
  have hsame : significand w = significand v * 2 ^ (k + 1) := by
    have hscaled : (significand w : Rat) = significand v * 2 ^ (k + 1) := by
      unfold wordMagnitude at h
      rw [show ((max (expField v) 1 : Nat) - 150 : Int) = ((k + 1 : Nat) : Int) + ((max (expField w) 1 : Nat) - 150) by
        omega, zpow_add₀ two_ne_zero, zpow_natCast, ← mul_assoc] at h
      exact mul_right_cancel₀ hunit.ne' h
    exact_mod_cast hscaled
  have hhidden : 2 ^ 23 ≤ significand v := by
    unfold significand
    rw [if_neg (by omega)]
    omega
  have hbits := significand_lt w
  have hdouble : significand v * 2 ≤ significand v * 2 ^ (k + 1) :=
    Nat.mul_le_mul_left _ (Nat.le_self_pow (by omega) 2)
  omega

/-- A finite word's magnitude determines its exponent field and its fraction field. -/
theorem fields_eq_of_wordMagnitude_eq {w v : U32} (h : wordMagnitude w = wordMagnitude v) :
    expField w = expField v ∧ fracField w = fracField v := by
  have hexponent : max (expField w) 1 = max (expField v) 1 :=
    le_antisymm (wordMagnitude_exponent_le h.symm) (wordMagnitude_exponent_le h)
  have hunit : (0 : Rat) < 2 ^ ((max (expField v) 1 : Nat) - 150 : Int) := by positivity
  have hsame : significand w = significand v := by
    unfold wordMagnitude at h
    rw [hexponent] at h
    exact_mod_cast mul_right_cancel₀ hunit.ne' h
  have hw : fracField w < 2 ^ 23 := fracField_eq w ▸ Nat.mod_lt _ (by norm_num)
  have hv : fracField v < 2 ^ 23 := fracField_eq v ▸ Nat.mod_lt _ (by norm_num)
  unfold significand at hsame
  split at hsame
  all_goals split at hsame
  all_goals omega

/-- A word is its sign and its two fields. -/
theorem eq_of_fields {w v : U32} (hsign : w.msb = v.msb) (hexp : expField w = expField v)
    (hfrac : fracField w = fracField v) : w = v := by
  apply BitVec.eq_of_toNat_eq
  rw [expField_eq, expField_eq] at hexp
  rw [fracField_eq, fracField_eq] at hfrac
  rw [BitVec.msb_eq_decide, BitVec.msb_eq_decide, decide_eq_decide] at hsign
  have hw := w.isLt
  have hv := v.isLt
  omega

/-- The sign of a finite word that is not 0 is the sign of its value. -/
theorem msb_of_f32 {w : U32} {q : Rat} (h : f32 w = some q) (hq : q ≠ 0) : w.msb = decide (q < 0) := by
  have hfinite : expField w ≠ 255 := of_decide_eq_true (f32_isSome w ▸ h ▸ rfl)
  rw [f32_of_finite hfinite] at h
  obtain rfl := Option.some.inj h
  have hmag : 0 ≤ wordMagnitude w := by
    unfold wordMagnitude
    positivity
  cases hs : w.msb
  · simp [hmag]
  · simp only [hs, if_true, neg_ne_zero] at hq
    simpa using lt_of_le_of_ne hmag (Ne.symm hq)

/-- The magnitude of a finite word is that of its value. -/
theorem wordMagnitude_of_f32 {w : U32} {q : Rat} (h : f32 w = some q) : wordMagnitude w = |q| := by
  have hfinite : expField w ≠ 255 := of_decide_eq_true (f32_isSome w ▸ h ▸ rfl)
  rw [f32_of_finite hfinite] at h
  obtain rfl := Option.some.inj h
  have hmag : 0 ≤ wordMagnitude w := by
    unfold wordMagnitude
    positivity
  rw [apply_ite abs, abs_neg, ite_self, abs_of_nonneg hmag]

/-- Only 0 is the value of two words. -/
theorem f32_injective {w v : U32} {q : Rat} (hw : f32 w = some q) (hv : f32 v = some q) (hq : q ≠ 0) : w = v := by
  obtain ⟨hexp, hfrac⟩ :=
    fields_eq_of_wordMagnitude_eq ((wordMagnitude_of_f32 hw).trans (wordMagnitude_of_f32 hv).symm)
  exact eq_of_fields ((msb_of_f32 hw hq).trans (msb_of_f32 hv hq).symm) hexp hfrac

/-- Every finite value is at most the greatest. -/
theorem abs_le_of_f32 {w : U32} {q : Rat} (h : f32 w = some q) : |q| ≤ (2 - 1 / 2 ^ 23) * 2 ^ 127 := by
  have hfinite : expField w ≠ 255 := of_decide_eq_true (f32_isSome w ▸ h ▸ rfl)
  have hexp : max (expField w) 1 ≤ 254 := by
    have : expField w < 2 ^ 8 := expField_eq w ▸ Nat.mod_lt _ (by norm_num)
    omega
  have hbits : (significand w : Rat) ≤ 2 ^ 24 - 1 := by
    have := significand_lt w
    exact_mod_cast (show (significand w : Int) ≤ 2 ^ 24 - 1 by omega)
  rw [← wordMagnitude_of_f32 h]
  calc wordMagnitude w = significand w * 2 ^ ((max (expField w) 1 : Nat) - 150 : Int) := rfl
    _ ≤ (2 ^ 24 - 1) * 2 ^ (104 : Int) :=
      mul_le_mul hbits (zpow_le_zpow_right₀ (by norm_num) (by omega)) (by positivity) (by norm_num)
    _ = (2 - 1 / 2 ^ 23) * 2 ^ 127 := by norm_num

/-- Settles O37. No word is nearer to a value of the format than one whose value it is, and that word is the only one. -/
theorem rne32FixesBinary32Values : Obligations.Rne32FixesBinary32Values := by
  unfold Obligations.Rne32FixesBinary32Values
  refine ⟨fun w q hw hq => ?_, f32_rne32_zero, by decide +kernel, rfl⟩
  obtain ⟨r, hr, hnearest, -⟩ := rne32RoundsToNearestEven q (abs_le_of_f32 hw)
  have hexact : r = q := by simpa [sub_eq_zero] using hnearest w q hw
  exact f32_injective (hexact ▸ hr) hw hq

end Sys2Proof.Machine
end

section
/-! Exchanges that fail (spec/60_exceptions.md R263, R266): in a word of one frame, at the third frame of the default
sequence, and in a tick; and the exchange of a wire frame (log entry 10). -/

namespace Sys2Proof.Machine

/-! ### Words -/

section Words

variable {s : State}

/-- A conversion of a channel in a state with a reference is not a division by zero (R160). -/
theorem State.denominator_ne_zero (slot : Slot) (h : s.vref ≠ 0) : s.vref * (s.channel slot).gain.factor ≠ 0 :=
  mul_ne_zero h (Gain.factor_pos _).ne'

/-- The body of DEV_INTREF whose first exchange does not complete: no cache is written (R184, R263). -/
theorem State.intrefBody_of_not_ok (e : Bool) (hf : s.fault = .none) (hb : s.busOk = false) :
    s.intrefBody e = s.busFailed := by
  rw [State.intrefBody, State.writeConfig_of_not_ok _ _ hf hb, State.andThen_busFailed, State.andThen_busFailed,
    State.andThen_busFailed]

end Words

/-- Settles O41. Every word's body is its first frame and what comes after it. -/
theorem failedExchangeChangesOnlyFault : Obligations.FailedExchangeChangesOnlyFault := by
  unfold Obligations.FailedExchangeChangesOnlyFault
  intro s hf hb
  have hword : ∀ {body : State → State}, body s = s.busFailed →
      s.control (fun u => (body u).okFrame) = .next s.busFailed := fun h => by
    rw [s.control_of_none _ hf, h, State.okFrame_busFailed]
  refine ⟨fun sel slot hsel => ?_, fun mode => hword (State.syncModeBody_of_not_ok _ hf hb),
    hword (State.writeConfig_of_not_ok _ _ hf hb), hword (State.writeConfig_of_not_ok _ _ hf hb),
    fun _ _ _ _ => hword (State.write_of_not_ok _ _ _ _ hf hb), fun v => hword (State.intrefBody_of_not_ok _ hf hb)⟩
  have hchannel : ∀ {body : Slot → State → State}, body slot s = s.busFailed →
      s.channelWord sel (fun slot u => (body slot u).okFrame) = .next s.busFailed := fun h => by
    rw [s.channelWord_of_selects sel slot _ hf hsel, h, State.okFrame_busFailed]
  refine ⟨fun code au => hchannel (State.setOut_of_not_ok _ _ _ hf hb),
    fun au w q hw hvref => ?_, fun mode hmode => ?_,
    hchannel (State.write_of_not_ok _ _ _ _ hf hb), hchannel (State.powerBody_of_not_ok _ _ _ hf hb),
    hchannel (body := fun slot u => u.powerBody slot u.pdMode false) (State.powerBody_of_not_ok _ _ _ hf hb)⟩
  · refine (s.channelWord_of_selects sel slot _ hf hsel).trans ?_
    rw [s.withReal_of_some w q _ hw, s.withCode_of_ne_zero slot q _ (State.denominator_ne_zero slot hvref),
      State.setOut_of_not_ok _ _ _ hf hb, State.okFrame_busFailed]
  · obtain ⟨m, hm, -, -⟩ := gainModeOf_of_le hmode
    rw [exec_chGain_of_some hf hsel hm, State.gainBody_of_not_ok slot m hf hb, State.okFrame_busFailed]

/-- Settles O42. The two POWER frames are sent, and the part that fails ends the sequence. -/
theorem faultAtThirdDefaultFrameKeepsTheFirstTwo : Obligations.FaultAtThirdDefaultFrameKeepsTheFirstTwo := by
  unfold Obligations.FaultAtThirdDefaultFrameKeepsTheFirstTwo
  intro s hf hcodes hids hbus hfail
  obtain ⟨hidA, hidB⟩ := hids
  have hsend : s.CanSend 2 := ⟨hf, hcodes, hbus⟩
  have hframes : s.perSlot (powerFrame 1) = [.frame 0x20 0x00 0x11, .frame 0x20 0x00 0x12] := by
    rw [State.perSlot, hidA, hidB]
    rfl
  have hthird : (s.poweredDown.sentAll [.frame 0x20 0x00 0x11, .frame 0x20 0x00 0x12]).busOk = false := by
    rw [← hfail]
    exact State.busOk_congr _ _ (by simp [State.sentAll, State.poweredDown, ← List.drop_one]) rfl
  have hdown : s.poweredDown.CanSend 2 := hsend.congr rfl rfl rfl rfl
  have hbody : s.defaultBody =
      (s.poweredDown.sentAll [.frame 0x20 0x00 0x11, .frame 0x20 0x00 0x12]).busFailed := by
    rw [State.defaultBody, hsend.powerDown (by rw [hframes]; rfl), hframes, hdown.andThen_sentAll,
      State.syncModeBody_of_not_ok (s := s.poweredDown.sentAll _) _ hdown.fault hthird, State.andThen_busFailed]
  have hexec : exec .devDefault s = .next s.defaultBody.okFrame := s.control_of_none _ hf
  rw [hexec, hbody, State.okFrame_busFailed]
  simp only [State.busFailed, State.sentAll, State.poweredDown, List.tail_drop]
  rfl

/-! ### The tick -/

section FailingTick

variable {s : State} {pre post : List Osc} {o : Osc}

/-- A tick whose exchange for a Running oscillator fails ends there: those before it are served, it has advanced, and
those after it are not processed (R239, R263). -/
theorem State.CanSend.tickAll_of_not_ok (hsend : s.CanSend (s.framesOf pre).length) (hok : s.Ok)
    (hoscs : s.oscs = pre ++ o :: post) (hconv : ∀ x ∈ pre ++ [o], s.Converts x) (hrun : o.run = true)
    (hv : validId (s.chanId o.bind) = true) (hfail : (s.served pre (o :: post)).busOk = false) :
    s.tickAll = (s.served pre (o.ticked s.cfg.sps :: post)).busFailed := by
  have hsize := hok.one_le_size
  obtain ⟨⟨⟨hfs, -⟩, -⟩, -⟩ := hok
  obtain ⟨code, hcode⟩ := Option.isSome_iff_exists.mp (o.sample_isSome (hsize o (by simp [hoscs])))
  have hpart : (s.served pre (o :: post)).tickOsc pre.length =
      (s.served pre (o.ticked s.cfg.sps :: post)).forward o code := by
    have hpart := State.tickOsc_of_running (s.served_oscs pre (o :: post)) hrun hcode
    rwa [List.length_map] at hpart
  have hvref : o.vmode = true → 0 < s.vref := fun hmode => hconv o (by simp) hrun hmode hv
  rw [State.forward_of_valid (s := s.served pre _) code hfs (by simpa using hv) hvref,
    State.setOut_of_not_ok (s := s.served pre (o.ticked s.cfg.sps :: post)) _ _ _ hsend.fault hfail] at hpart
  exact hsend.tickAll_of_fault hfs (fun x hx => hsize x (by simp [hoscs, hx])) (fun x hx => hconv x (by simp [hx]))
    hoscs hpart (by simp)

end FailingTick

/-- Settles O40. The two forms of a tick are the one tick, of `s` and of `s` after its input is taken. -/
theorem tickStopsAtAFailedExchange : Obligations.TickStopsAtAFailedExchange := by
  unfold Obligations.TickStopsAtAFailedExchange
  intro s pre o post hf hok hcodes hoscs hrun hv hvref hbus hfail
  have hsend : s.CanSend (s.framesOf pre).length := ⟨hf, hcodes, hbus⟩
  have hconv : ∀ x ∈ pre ++ [o], s.Converts x := fun x hx hxrun hxmode _ =>
    hvref.resolve_right fun hcode => absurd hxmode (by simp [hcode x hx hxrun])
  constructor
  case left =>
    exact exec_tick_of_fault hf hok.one_le_size (hsend.tickAll_of_not_ok hok hoscs hconv hrun hv hfail) (by simp)
  case right =>
    intro rest
    have htaken : State.CanSend { s with inputs := rest } (s.framesOf pre).length := hsend.congr rfl rfl rfl rfl
    rw [step_tick_of_none hf hok.one_le_size, htaken.tickAll_of_not_ok hok hoscs hconv hrun hv hfail]
    rfl

/-! ### Wire frames (log entry 10) -/

/-- Each row of the frame part of the opcode table is the exchange of its first byte and its data. -/
theorem exec_wireFrame {row : (U16 → Instr) × Byte} (hrow : row ∈
    [(Instr.frameWrInA, 0x00#8), (Instr.frameWrInB, 0x01), (Instr.frameWrInBoth, 0x07), (Instr.frameGain, 0x02),
      (Instr.frameUpdA, 0x08), (Instr.frameUpdB, 0x09), (Instr.frameUpdBoth, 0x0F), (Instr.frameWrUpdAllA, 0x10),
      (Instr.frameWrUpdAllB, 0x11), (Instr.frameWrUpdAllBoth, 0x17), (Instr.frameWrUpdA, 0x18),
      (Instr.frameWrUpdB, 0x19), (Instr.frameWrUpdBoth, 0x1F), (Instr.framePower, 0x20), (Instr.frameReset, 0x28),
      (Instr.frameLdac, 0x30), (Instr.frameIntref, 0x38)]) (data : U16) {s : State} (hf : s.fault = .none) :
    exec (row.1 data) s = .next (s.exchange row.2 (hiByte data) (loByte data)) := by
  have hrows : ∃ body : State → State, exec (row.1 data) s = s.control body ∧
      body s = s.exchange row.2 (hiByte data) (loByte data) := by
    simp only [List.mem_cons, List.not_mem_nil, or_false] at hrow
    rcases hrow with rfl | rfl | rfl | rfl | rfl | rfl | rfl | rfl | rfl | rfl | rfl | rfl | rfl | rfl | rfl | rfl | rfl
    all_goals exact ⟨_, rfl, rfl⟩
  obtain ⟨body, hexec, hbody⟩ := hrows
  rw [hexec, s.control_of_none body hf, hbody]

/-- Settles O58. -/
theorem wireFramesAreExchanged : Obligations.WireFramesAreExchanged := by
  unfold Obligations.WireFramesAreExchanged
  intro row hrow data s hf
  rw [exec_wireFrame hrow data hf]
  exact ⟨fun hb => by rw [s.exchange_of_ok _ _ _ hb], fun hb => by rw [s.exchange_of_not_ok _ _ _ hf hb]⟩

end Sys2Proof.Machine
end

section
/-! The converter view (spec/30_encoding.md R84 to R92, spec/70_reset_and_hazards.md R293, R301; log entry 16): what the
frames of the default sequence and of CH_GAIN make of it. A sequence that ended without a fault has had every exchange
completed, so that its frames are those of R182. -/

namespace Sys2Proof.Machine

/-! ### The exchanges of a sequence that did not fault -/

/-- From `s` to `t` there were `n` exchanges, all completed; the parameters stay. -/
structure State.Completed (n : Nat) (s t : State) : Prop where
  busOk : s.busOkFor n
  bus : t.bus = s.bus.drop n
  drawn : t.busDrawn = s.busDrawn + n
  cfg : t.cfg = s.cfg

/-- From `s` to `t` there are `n` exchanges, unless a fault ended the sequence before. -/
def State.Exchanges (n : Nat) (s t : State) : Prop := t.fault = .none → s.Completed n t

/-- The draws of one part of a sequence and of the next. -/
theorem State.busOkFor_add {n m : Nat} {s t : State} (hs : s.busOkFor n) (hbus : t.bus = s.bus.drop n)
    (hdrawn : t.busDrawn = s.busDrawn + n) (ht : t.busOkFor m) : s.busOkFor (n + m) := by
  induction n generalizing s with
  | zero =>
    rw [Nat.zero_add]
    exact State.busOkFor_congr hbus.symm hdrawn.symm ht
  | succ n ih =>
    rw [Nat.succ_add]
    refine ⟨hs.1, ih hs.2 ?_ ?_⟩
    · rw [hbus, s.afterDraw_bus, List.drop_tail]
    · rw [hdrawn, s.afterDraw_busDrawn]
      omega

/-- The identities are parameters (R4). -/
theorem State.chanId_congr {s t : State} (hcfg : t.cfg = s.cfg) (slot : Slot) : t.chanId slot = s.chanId slot := by
  cases slot
  · exact congrArg Config.chanIdA hcfg
  · exact congrArg Config.chanIdB hcfg

section Sequence

variable {n m : Nat} {s t : State}

/-- A part without an exchange. -/
theorem State.Exchanges.none (hbus : t.bus = s.bus) (hdrawn : t.busDrawn = s.busDrawn) (hcfg : t.cfg = s.cfg) :
    s.Exchanges 0 t := fun _ => ⟨trivial, hbus, hdrawn, hcfg⟩

/-- The exchanges of a part of a sequence and of the part after it. -/
theorem State.Exchanges.andThen {f : State → State} (h : s.Exchanges n t)
    (hf : t.fault = .none → t.cfg = s.cfg → t.Exchanges m (f t)) : s.Exchanges (n + m) (t.andThen f) := by
  intro hfault
  have ht : t.fault = .none := State.fault_of_andThen hfault
  rw [t.andThen_of_none f ht] at hfault ⊢
  obtain ⟨hok, hbus, hdrawn, hcfg⟩ := h ht
  obtain ⟨hok', hbus', hdrawn', hcfg'⟩ := hf ht hcfg hfault
  exact ⟨State.busOkFor_add hok hbus hdrawn hok', by rw [hbus', hbus, List.drop_drop], by rw [hdrawn', hdrawn]; omega,
    hcfg'.trans hcfg⟩

/-- A part that does nothing but write a cache after an exchange. -/
theorem State.Exchanges.cache {f : State → State} (h : s.Exchanges n t) (hbus : (f t).bus = t.bus)
    (hdrawn : (f t).busDrawn = t.busDrawn) (hcfg : (f t).cfg = t.cfg) : s.Exchanges n (t.andThen f) :=
  h.andThen fun _ _ => .none hbus hdrawn hcfg

/-- A write is one exchange (R180, R263). -/
theorem State.write_exchanges (data : U16) (addr cmd : Nat) (cfgWrite : Bool) (hf : s.fault = .none) :
    s.Exchanges 1 (s.write data addr cmd cfgWrite) := by
  intro hfault
  rcases s.write_cases data addr cmd cfgWrite hf with ⟨hb, b0, b1, b2, hsent⟩ | ⟨-, hfailed⟩
  · rw [hsent]
    exact ⟨⟨hb, trivial⟩, List.drop_one.symm, rfl, rfl⟩
  · rw [hfailed] at hfault
    cases hfault

theorem State.gainBody_exchanges (slot : Slot) (m : GainMode) (hf : s.fault = .none) :
    s.Exchanges 1 (s.gainBody slot m) :=
  (State.write_exchanges _ _ _ _ hf).cache (State.setGain_bus _ _ _) (State.setGain_busDrawn _ _ _)
    (State.setGain_cfg _ _ _)

theorem State.powerBody_exchanges (slot : Slot) (pd : BitVec 2) (en : Bool) (hf : s.fault = .none) :
    s.Exchanges 1 (s.powerBody slot pd en) :=
  (State.write_exchanges _ _ _ _ hf).cache (State.setEn_bus _ _ _) (State.setEn_busDrawn _ _ _) (State.setEn_cfg _ _ _)

theorem State.syncModeBody_exchanges (m : BitVec 2) (hf : s.fault = .none) : s.Exchanges 1 (s.syncModeBody m) :=
  (State.write_exchanges _ _ _ _ hf).cache rfl rfl rfl

/-- A part for a slot whose identity was valid when the sequence began: identities are parameters (R4). -/
theorem State.onSlot_exchanges {slot : Slot} {f : State → State} (hv : ∀ slot, validId (s.chanId slot) = true)
    (hcfg : t.cfg = s.cfg) (h : t.Exchanges n (f t)) : t.Exchanges n (t.onSlot slot f) := by
  have hid : validId (t.chanId slot) = true := (congrArg validId (State.chanId_congr hcfg slot)).trans (hv slot)
  rwa [State.onSlot, if_pos hid]

/-- The exchanges of DEV_INTREF for two slots of valid identity: the reference, then the gains (R184). -/
theorem State.intrefBody_exchanges (e : Bool) (hf : s.fault = .none) (hv : ∀ slot, validId (s.chanId slot) = true) :
    s.Exchanges 3 (s.intrefBody e) := by
  unfold State.intrefBody
  refine State.Exchanges.andThen (n := 2) (m := 1) (State.Exchanges.andThen (n := 1) (m := 1)
    (State.Exchanges.cache ?_ rfl rfl rfl) fun hf hcfg => ?_) fun hf hcfg => ?_
  · exact State.write_exchanges _ _ _ _ hf
  · exact State.onSlot_exchanges hv hcfg (State.gainBody_exchanges _ _ hf)
  · exact State.onSlot_exchanges hv hcfg (State.gainBody_exchanges _ _ hf)

/-- The exchanges of the default sequence for two slots of valid identity (R182). -/
theorem State.defaultBody_exchanges (hv : ∀ slot, validId (s.chanId slot) = true) :
    s.Exchanges 6 s.defaultBody := by
  unfold State.defaultBody
  refine State.Exchanges.andThen (n := 3) (m := 3) (State.Exchanges.andThen (n := 2) (m := 1)
    (State.Exchanges.andThen (n := 1) (m := 1) (State.Exchanges.andThen (n := 0) (m := 1) ?_ fun hf hcfg => ?_)
      fun hf hcfg => ?_) fun hf _ => ?_) fun hf hcfg => ?_
  · exact .none rfl rfl rfl
  · exact State.onSlot_exchanges hv hcfg (State.powerBody_exchanges _ _ _ hf)
  · exact State.onSlot_exchanges hv hcfg (State.powerBody_exchanges _ _ _ hf)
  · exact State.syncModeBody_exchanges _ hf
  · exact State.intrefBody_exchanges _ hf fun slot =>
      (congrArg validId (State.chanId_congr hcfg slot)).trans (hv slot)

end Sequence

/-- The default identities are valid (R4, R151). -/
theorem State.DefaultIds.valid {s : State} (h : s.DefaultIds) (slot : Slot) : validId (s.chanId slot) = true := by
  obtain ⟨hidA, hidB⟩ := h
  cases slot
  · exact congrArg validId hidA
  · exact congrArg validId hidB

/-! ### What the frames tell of the converter -/

/-- The log after a sequence. -/
theorem State.sentAll_evlog (s : State) (l : List Event) : (s.sentAll l).evlog = s.evlog ++ l := rfl

/-- Events are seen in their order. -/
theorem converterAfter_append (log events : List Event) :
    converterAfter (log ++ events) = events.foldl ConverterView.observe (converterAfter log) :=
  List.foldl_append

/-- The six frames of the default sequence, whatever was known before. -/
theorem observe_defaultFrames (v : ConverterView) :
    [Event.frame 0x20 0x00 0x11, .frame 0x20 0x00 0x12, .frame 0x30 0x00 0x03, .frame 0x38 0x00 0x01,
      .frame 0x02 0x00 0x00, .frame 0x02 0x00 0x00].foldl ConverterView.observe v =
      { v with powerA := some 1, powerB := some 1, ldac := some 3, reference := some true, gain := some 0 } := rfl

/-- With the default identities these are the frames of the default sequence (R182). -/
theorem State.defaultFrames_of_defaultIds {s : State} (h : s.DefaultIds) :
    s.defaultFrames = [.frame 0x20 0x00 0x11, .frame 0x20 0x00 0x12, .frame 0x30 0x00 0x03, .frame 0x38 0x00 0x01,
      .frame 0x02 0x00 0x00, .frame 0x02 0x00 0x00] := by
  obtain ⟨hidA, hidB⟩ := h
  rw [State.defaultFrames, State.perSlot, State.perSlot, hidA, hidB]
  rfl

/-- With the default identities both channels are left disabled at gain 2 (R182). -/
theorem State.afterDefault_channels {s : State} (h : s.DefaultIds) :
    s.afterDefault.chA = ⟨.two, false⟩ ∧ s.afterDefault.chB = ⟨.two, false⟩ := by
  simp [State.afterDefault, validId, h.1, h.2]

/-- Settles O59. Without a fault every exchange completed, and the frames are those of the whole sequence. -/
theorem cachesAgreeWithTheConverterAfterInit : Obligations.CachesAgreeWithTheConverterAfterInit := by
  unfold Obligations.CachesAgreeWithTheConverterAfterInit
  intro i s t hi hf hcodes hids h ht
  have hexec : exec i s = .next s.defaultBody.okFrame := by
    rcases hi with rfl | rfl
    · exact s.control_of_none _ hf
    · exact s.control_of_none _ hf
  have hframes := State.defaultFrames_of_defaultIds hids
  have hbus : s.busOkFor 6 := by
    rw [hexec] at h
    cases h
    exact (State.defaultBody_exchanges hids.valid (State.fault_of_andThen ht)).busOk
  have hsend : s.CanSend s.defaultFrames.length := ⟨hf, hcodes, by rw [hframes]; exact hbus⟩
  rw [hexec, hsend.defaultBody, State.okFrame_sentAll s.afterDefault s.defaultFrames hf (by simp [hframes])] at h
  cases h
  obtain ⟨hchA, hchB⟩ := State.afterDefault_channels hids
  rw [State.answered_evlog, State.sentAll_evlog, converterAfter_append, hframes, observe_defaultFrames]
  exact ⟨rfl, rfl, rfl, rfl, rfl, rfl, hchA, hchB, rfl, rfl⟩

/-- Settles O60. The word sends its frame before it writes slot A's factor, and without a fault it was sent. -/
theorem gainWriteFromOneSlotSetsBothAtTheConverter : Obligations.GainWriteFromOneSlotSetsBothAtTheConverter := by
  unfold Obligations.GainWriteFromOneSlotSetsBothAtTheConverter
  intro s t hf hcodes hids h ht
  have hsel : s.Selects 0 .a := ⟨rfl, hids.valid .a⟩
  obtain ⟨-, hsent, hfailed⟩ := chGainResult 0 .a 1 s hf hcodes hsel
  cases hb : s.busOk
  case false =>
    rw [hfailed (by decide) hb] at h
    cases h
    cases ht
  case true =>
    rw [hsent (by decide) hb] at h
    cases h
    refine ⟨?_, ?_, rfl⟩
    · exact congrArg ConverterView.gain (converterAfter_append s.evlog [.frame 0x02 0x00 0x01])
    · exact congrArg (factorOf 1) hids.1

end Sys2Proof.Machine
end

section
/-! The examples of spec/43_oscillator.md section 6: the accumulator with `N = 1639` (R243), and the two halves of a
sine table (R244). -/

namespace Sys2Proof.Machine

/-! ### The accumulator (R241, R243) -/

/-- The step of R243's numbers. -/
theorem Osc.stepSize_example {o : Osc} (hsize : o.size = 1639) (hfreq : o.freq = 100) : o.stepSize 1000 = 163 := by
  rw [Osc.stepSize, hsize, hfreq, Int.floor_eq_iff]
  norm_num

/-- After `n` advances with R243's numbers, from 0. -/
theorem Osc.repeat_advance_example {o : Osc} (hsize : o.size = 1639) (hfreq : o.freq = 100) (hidx : o.idx = 0)
    (n : Nat) : Nat.repeat (Osc.advance 1000) n o = { o with idx := 163 * n % 1639 } := by
  induction n with
  | zero => rw [Nat.repeat, Nat.mul_zero, Nat.zero_mod, ← hidx]
  | succ n ih =>
    have hstep : Osc.stepSize 1000 { o with idx := 163 * n % 1639 } = 163 := Osc.stepSize_example hsize hfreq
    have hcount : Osc.size { o with idx := 163 * n % 1639 } = 1639 := hsize
    rw [Nat.repeat, ih, Osc.advance, hstep, hcount, Osc.mk.injEq]
    refine ⟨rfl, rfl, rfl, rfl, rfl, rfl, ?_, rfl, rfl, rfl⟩
    dsimp only
    omega

/-- Settles O56. The accumulator after `n` ticks is `163 · n mod 1639`. -/
theorem accumulatorExampleOfTheSpec : Obligations.AccumulatorExampleOfTheSpec := by
  unfold Obligations.AccumulatorExampleOfTheSpec
  intro o hsize hfreq hidx
  refine ⟨Osc.stepSize_example hsize hfreq, ?_⟩
  simp only [Osc.repeat_advance_example hsize hfreq hidx]
  decide

/-! ### The sine table (R226, R244) -/

/-- Half an integer from an integer, `round_ha` goes up (R12). -/
theorem roundHa_half {q : Rat} {n : Int} (hn : 0 ≤ n) (h : q = n + 1 / 2) : roundHa q = n + 1 := by
  have hn : (0 : Rat) ≤ n := by exact_mod_cast hn
  rw [roundHa, if_pos (by linarith), show q + 1 / 2 = ((n + 1 : Int) : Rat) by rw [h]; push_cast; ring, Int.floor_intCast]

/-- Two numbers that add up to an integer round to numbers that do too, or to one more where both end in one half. -/
theorem roundHa_add_roundHa_sub {y : Rat} {n : Int} (h0 : 0 ≤ y) (hn : y ≤ n) :
    roundHa y + roundHa (n - y) = n + if Int.fract y = 1 / 2 then 1 else 0 := by
  have hfloor : 0 ≤ ⌊y⌋ := Int.floor_nonneg.mpr h0
  have hsplit : y = ⌊y⌋ + Int.fract y := (Int.floor_add_fract y).symm
  have hfract0 := Int.fract_nonneg y
  have hfract1 := Int.fract_lt_one y
  generalize ⌊y⌋ = k, Int.fract y = f at hfloor hsplit hfract0 hfract1 ⊢
  subst hsplit
  obtain hlt | rfl | hgt := lt_trichotomy f (1 / 2)
  · have hy : roundHa (k + f) = k := roundHa_eq_of_abs_lt (by rw [abs_lt]; constructor <;> linarith)
    have hny : roundHa (n - (k + f)) = n - k :=
      roundHa_eq_of_abs_lt (by rw [abs_lt]; push_cast; constructor <;> linarith)
    rw [hy, hny, if_neg hlt.ne]
    ring
  · have hk : k + 1 ≤ n := by
      by_contra hc
      have hc : (n : Rat) ≤ k := by exact_mod_cast (show n ≤ k by omega)
      linarith
    have hy : roundHa (k + 1 / 2) = k + 1 := roundHa_half hfloor rfl
    have hny : roundHa (n - (k + 1 / 2)) = n - k - 1 + 1 :=
      roundHa_half (by omega) (by push_cast; ring)
    rw [hy, hny, if_pos rfl]
    ring
  · have hy : roundHa (k + f) = k + 1 :=
      roundHa_eq_of_abs_lt (by rw [abs_lt]; push_cast; constructor <;> linarith)
    have hny : roundHa (n - (k + f)) = n - k - 1 :=
      roundHa_eq_of_abs_lt (by rw [abs_lt]; push_cast; constructor <;> linarith)
    rw [hy, hny, if_neg hgt.ne']
    ring

/-- The unrounded entry of a sine table without offset (R226). -/
def sineEntry (fullScale : Nat) (amp x : Rat) : Rat := fullScale / 2 + amp * (fullScale / 2) * x

/-- It lies in the range of codes, so that the clamp does nothing. -/
theorem sineEntry_mem (fullScale : Nat) {amp x : Rat} (ha0 : 0 ≤ amp) (ha1 : amp ≤ 1) (hx : -1 ≤ x ∧ x ≤ 1) :
    0 ≤ sineEntry fullScale amp x ∧ sineEntry fullScale amp x ≤ fullScale := by
  have hm : (0 : Rat) ≤ fullScale / 2 := by positivity
  have hax : |amp * x| ≤ 1 := by
    rw [abs_mul, abs_of_nonneg ha0]
    exact mul_le_one₀ ha1 (abs_nonneg x) (abs_le.mpr hx)
  obtain ⟨hlow, hhigh⟩ := abs_le.mp hax
  have hlow := mul_le_mul_of_nonneg_right hlow hm
  have hhigh := mul_le_mul_of_nonneg_right hhigh hm
  unfold sineEntry
  constructor <;> linarith

/-- An opposite sample reflects the entry in the middle of the range. -/
theorem sineEntry_neg (fullScale : Nat) (amp x : Rat) :
    sineEntry fullScale amp (-x) = fullScale - sineEntry fullScale amp x := by
  unfold sineEntry
  ring

/-- The code of an entry is the rounded entry. -/
theorem tableEntry_toNat {fullScale : Nat} (hfs : fullScale ≤ 65535) {amp x : Rat} (ha0 : 0 ≤ amp) (ha1 : amp ≤ 1)
    (hx : -1 ≤ x ∧ x ≤ 1) : ((tableEntry fullScale amp 0 x).toNat : Int) = roundHa (sineEntry fullScale amp x) := by
  obtain ⟨h0, hmax⟩ := sineEntry_mem fullScale ha0 ha1 hx
  have hlow : 0 ≤ roundHa (sineEntry fullScale amp x) := le_roundHa (by exact_mod_cast h0)
  have hhigh : roundHa (sineEntry fullScale amp x) ≤ fullScale := roundHa_le (by exact_mod_cast hmax)
  have hentry : tableEntry fullScale amp 0 x =
      BitVec.ofNat 16 (clampInt (roundHa (sineEntry fullScale amp x)) 0 fullScale).toNat := by
    rw [tableEntry, zero_mul, add_zero]
    rfl
  rw [hentry, clampInt, max_eq_left hlow, min_eq_left hhigh, BitVec.toNat_ofNat, Nat.mod_eq_of_lt (by omega),
    Int.toNat_of_nonneg hlow]

/-- The entries of a regenerated SINE table (R226). -/
theorem Osc.regen_sine_getElem? {o : Osc} (fullScale : Nat) (hkind : o.kind = .sine) {i : Nat}
    (hi : i < o.size) :
    (o.regen fullScale).table[i]? = some (tableEntry fullScale o.amp o.dc (Config.sin i o.size)) := by
  simp [Osc.regen, hkind, hi]

/-- Settles O57. The two samples are opposite (`SIN_ODD`), so the unrounded entries add up to `FULL_SCALE`. -/
theorem sineTableSymmetry : Obligations.SineTableSymmetry := by
  unfold Obligations.SineTableSymmetry
  intro fullScale o i hfs hkind hdc ha0 ha1 heven hi
  have hrange := Config.sin_range i o.size (by omega)
  have hodd := Config.sin_odd i o.size heven hi
  have ha := tableEntry_toNat hfs ha0 ha1 hrange
  have hb := tableEntry_toNat (x := -Config.sin i o.size) hfs ha0 ha1 ⟨by linarith, by linarith⟩
  obtain ⟨h0, hmax⟩ := sineEntry_mem fullScale ha0 ha1 hrange
  have hsum := roundHa_add_roundHa_sub (n := fullScale) h0 (by exact_mod_cast hmax)
  rw [Int.cast_natCast, ← sineEntry_neg, ← ha, ← hb] at hsum
  refine ⟨_, _, Osc.regen_sine_getElem? fullScale hkind (by omega),
    Osc.regen_sine_getElem? fullScale hkind (by omega), ?_⟩
  change _ ∧ (_ ↔ Int.fract (sineEntry fullScale o.amp (Config.sin i o.size)) = 1 / 2)
  rw [hodd, hdc]
  split at hsum
  case isTrue hhalf => exact ⟨.inr (by omega), iff_of_true (by omega) hhalf⟩
  case isFalse hhalf => exact ⟨.inl (by omega), iff_of_false (by omega) hhalf⟩

end Sys2Proof.Machine
end
